-- ==== Sys2Proof/Word.lean ====
section
/-! DEFINITION. Words, indices and the unit of time of the TM2640 (spec 00, Conventions). -/
namespace Sys2Proof

/-- One byte of a frame, a form or the image. -/
abbrev Byte := BitVec 8
/-- A 16-bit count that wraps: the epoch (R45), the generation (R4), the warm restart count (R171). -/
abbrev Half := BitVec 16
/-- A 32-bit count that wraps: part time and stamps (R59), sweep numbers (R65). -/
abbrev Word := BitVec 32

/-- A cell index, 0 to 639 (R2). -/
abbrev CellIx := Fin 640
/-- A line id, 0 to 127 (R3). -/
abbrev LineIx := Fin 128
/-- A pass number, 0 to 7 (R1). -/
abbrev PassIx := Fin 8
/-- A capture group number, 0 to 7 (R3). -/
abbrev GroupIx := Fin 8
/-- A slot of a group, 0 to 15 (R3). -/
abbrev SlotIx := Fin 16

end Sys2Proof
end

