-- ==== Sys2Proof/Syntax.lean ====
section
/-! DEFINITION. The commands of the TM2640: one constructor per row of spec/opcode_table.json, over the enumerations
and configuration records that the rows' operands name. -/
namespace Sys2Proof

/-- The three master ports (R151). -/
inductive Port where
  | control | trip | service
deriving DecidableEq, Repr

/-- The relock policy (R11, R55). -/
inductive RelockPolicy where
  | relock | ride
deriving DecidableEq, Repr

/-- The pass service states (R124). -/
inductive PassState where
  | online | spall | offline
deriving DecidableEq, Repr

/-- Alarm severities, in rising order (R101). -/
inductive Severity where
  | none | rate | high | highHigh
deriving DecidableEq, Repr

/-- Restart causes (R171). -/
inductive RestartCause where
  | powerOn | resetPin | brownout | request | holdLost
deriving DecidableEq, Repr

/-- A line record (R5): zero trim in 0.01 Hz, span in mHz per degree Celsius. -/
structure LineRecord where
  fitted : Bool
  zeroTrim : Int
  span : Nat
deriving DecidableEq, Repr

/-- One item of a cell's source list (R6): a line id and a source trim in tenths. -/
structure SourceItem where
  line : Nat
  trim : Int
deriving DecidableEq, Repr

/-- A fallback (R7): a cell index and an offset in tenths. -/
structure Fallback where
  cell : Nat
  offset : Int
deriving DecidableEq, Repr

/-- A cell entry without its check code (R6). -/
structure CellEntry where
  sources : List SourceItem
  fallback : Option Fallback
deriving DecidableEq, Repr

/-- A pass record (R10). -/
structure PassRecord where
  tubeCount : Nat
  levelCount : Nat
  high : Nat
  highHigh : Nat
  spallHigh : Nat
  spallHighHigh : Nat
  deadband : Nat
  rateLimit : Nat
deriving DecidableEq, Repr

/-- One group's settings (R12): measurement window N and reference interleave I. -/
structure GroupSettings where
  window : Nat
  interleave : Nat
deriving DecidableEq, Repr

/-- The global record with the settings of the eight groups (R11, R12). -/
structure GlobalRecord where
  sweepPeriod : Nat
  staleLimit : Nat
  staleHold : Nat
  disagreement : Nat
  scanMargin : Nat
  scanValidAge : Nat
  rateWindow : Nat
  maxSpall : Nat
  spallOverdue : Nat
  multiplierEnable : Bool
  relock : RelockPolicy
  referenceAge : Nat
  groups : Vector GroupSettings 8
deriving DecidableEq, Repr

/-- A non-empty entry of the retained alarm table (R116). -/
structure RetainedAlarm where
  severity : Severity
  peak : Option Int
deriving DecidableEq, Repr

/-- What a disturbance leaves in one part of the hold domain, or the loss of its supply (R174, log 11). -/
inductive HoldUpset where
  /-- The hold domain's supply is lost. -/
  | supplyLost
  /-- The stored hold check now reads so. -/
  | check (value : Word)
  /-- A retained line record now reads so. -/
  | line (ix : LineIx) (record : LineRecord)
  /-- A retained cell entry and its code now read so. -/
  | cell (ix : CellIx) (entry : CellEntry) (code : Byte)
  /-- A retained pass record now reads so. -/
  | pass (ix : PassIx) (record : PassRecord)
  /-- The retained global record now reads so. -/
  | globals (record : GlobalRecord)
  /-- The retained generation now reads so. -/
  | generation (value : Half)
  /-- A retained pass state and pending target now read so. -/
  | passState (ix : PassIx) (state : PassState) (target : Option PassState)
  /-- A retained alarm entry now reads so. -/
  | alarm (ix : CellIx) (entry : Option RetainedAlarm)
  /-- The restart record now reads so. -/
  | restartRecord (cause : RestartCause) (count : Half)
deriving DecidableEq, Repr

/-- Which level returned to end RESET_HELD (R173). -/
inductive HeldLevel where
  /-- RESET_N is released. -/
  | resetPin
  /-- The core supply has returned. -/
  | coreSupply
deriving DecidableEq, Repr

/-- The commands: one constructor per row of spec/opcode_table.json. An operand `elapsed` is the part time, in ms, that
passes before the event is looked at (log 1); `periods` are counting-clock periods since the group's previous edge
(log 6); `begunEarly` says that chip select was asserted before RUNNING was reached (R160, log 4). -/
inductive Instr where
  -- The ports (Section 9).
  | requestTransaction (port : Port) (bytes : List Byte) (trailingBits : Bool) (begunEarly : Bool)
  | poll (port : Port) (clocked : Nat) (begunEarly : Bool)
  -- Execution of the request in a port's slot (R155, R163).
  | unknownKind (port : Port)
  | getStatus (port : Port)
  | getNotices (port : Port)
  | getCell (port : Port)
  | getPass (port : Port)
  | getLine (port : Port)
  | getHotlist (port : Port)
  | getPassinfo (port : Port)
  | acknowledge (port : Port)
  | setPassState (port : Port)
  | claim (port : Port)
  | release (port : Port)
  | stageLine (port : Port)
  | stageCell (port : Port)
  | stagePass (port : Port)
  | stageGlobal (port : Port)
  | commit (port : Port)
  | getConfig (port : Port)
  | scanOpen (port : Port)
  | scanPut (port : Port)
  | scanClose (port : Port)
  | scanDrop (port : Port)
  | getFaults (port : Port)
  | clearFaults (port : Port)
  | storeImage (port : Port)
  | restart (port : Port)
  -- The capture groups (Section 2).
  | settleEnd (group : GroupIx) (elapsed : Nat)
  | armEdge (group : GroupIx)
  | armTimeout (group : GroupIx) (elapsed : Nat)
  | countEnd (group : GroupIx) (periods : Nat)
  | countTimeout (group : GroupIx) (elapsed : Nat)
  | widthEnd (group : GroupIx)
  | widthTimeout (group : GroupIx) (elapsed : Nat)
  | readingRetire (line : LineIx) (elapsed : Nat)
  -- The timebase (Section 3).
  | crystalGap
  | crystalRestore (elapsed : Nat)
  | lockReport
  | lossOfLockReport
  | lockTimeout (elapsed : Nat)
  | retryExpiry (elapsed : Nat)
  -- The sweep and the pass states (Sections 4 and 7).
  | sweepBoundary (elapsed : Nat)
  | cellComputation
  | spallOverdue (pass : PassIx) (elapsed : Nat)
  -- The scan unit and the edit claim (Sections 5 and 8).
  | batchExpiry (elapsed : Nat)
  | scanEntryRetire (cell : CellIx) (elapsed : Nat)
  | claimExpiry (elapsed : Nat)
  -- The restart and the image (Section 11).
  | powerOn
  | resetPin
  | brownout
  | resetHeldEnd (level : HeldLevel)
  | restartPendingExpiry (elapsed : Nat)
  | imageLoad
  | eraseEnd
  | writeEnd (misread : List (Nat × Byte))
  | storeCompletion
  -- Rows the table lists last.
  | crystalEdge
  | cycleClose (group : GroupIx) (periods : Nat)
  | fallingEdge (group : GroupIx) (periods : Nat)
  | entryStorageUpset (cell : CellIx) (entry : CellEntry) (code : Byte)
  | holdDomainDisturbance (upset : HoldUpset)
deriving DecidableEq, Repr

end Sys2Proof
end

