-- ==== Sys2Proof/Config.lean ====
section
/-! DEFINITION. What the spec leaves open as a value: one free value, with no body. -/
namespace Sys2Proof

/-- DESIGN CHOICE (log 18). The quotient of a division by zero, as a function of the dividend. The spec divides by
counts, spans, windows and frequencies that its own ranges keep above zero, and states no quotient by zero: the value
stays free. Safe. -/
opaque Config.quotientByZero : Int → Int

end Sys2Proof
end

