-- ==== Sys2Proof/Machine/Arith.lean ====
section
/-! DEFINITION. Whole-number arithmetic (spec 00, Conventions), byte order (R161), modular ages, tables of fixed length
and the two check sums (R152, R175). -/
namespace Sys2Proof.Machine

/-- A quotient rounded to the nearest whole number, an exact half away from zero (00, Rounding). -/
def roundDiv (n : Int) (d : Nat) : Int :=
  if d = 0 then Config.quotientByZero n
  else if 0 ≤ n then (2 * n + d) / (2 * d)
  else -((2 * (-n) + d) / (2 * d))

/-- `x` brought into `lo` to `hi`. -/
def clamp (lo hi x : Int) : Int := if x < lo then lo else if hi < x then hi else x

/-- The valid temperature range, −50.0 to 1350.0 degrees (00, Temperatures). -/
def clampTemp (x : Int) : Int := clamp (-500) 13500 x

/-- Whether a temperature lies in the valid range. -/
def tempOk (x : Int) : Bool := decide (-500 ≤ x ∧ x ≤ 13500)

/-- The age of a stamp: part time less the stamp, modulo 2^32 (00, Time). -/
def age (now stamp : Word) : Nat := (now - stamp).toNat

/-- Whether part time has reached a boundary, the count taken modulo 2^32 (R59, R62). DESIGN CHOICE (log 35): a boundary
less than half the count behind part time has been reached, any other lies ahead. -/
def reached (now boundary : Word) : Bool := decide ((now - boundary).toNat < 2147483648)

/-- Replacing one entry of a table of fixed length. -/
def put {α : Type} {n : Nat} (v : Vector α n) (i : Fin n) (x : α) : Vector α n := v.set i.1 x i.2

/-- A 16-bit field, high byte first (R161). -/
def be16 (n : Nat) : List Byte := [BitVec.ofNat 8 (n / 256), BitVec.ofNat 8 n]

/-- A 32-bit field, high byte first (R161). -/
def be32 (n : Nat) : List Byte :=
  [BitVec.ofNat 8 (n / 16777216), BitVec.ofNat 8 (n / 65536), BitVec.ofNat 8 (n / 256), BitVec.ofNat 8 n]

/-- A one-byte field. -/
def byte1 (n : Nat) : List Byte := [BitVec.ofNat 8 n]

/-- The 16-bit two's complement form of a signed value (R8, R161). -/
def word16 (x : Int) : Nat := (x % 65536).toNat

/-- A signed 16-bit field, high byte first. -/
def signedBe16 (x : Int) : List Byte := be16 (word16 x)

/-- The value of two bytes, high byte first. -/
def read16 (hi lo : Byte) : Nat := hi.toNat * 256 + lo.toNat

/-- The value of four bytes, high byte first. -/
def read32 (a b c d : Byte) : Nat := a.toNat * 16777216 + b.toNat * 65536 + c.toNat * 256 + d.toNat

/-- The signed value of a 16-bit field. -/
def signed (n : Nat) : Int := if n < 32768 then (n : Int) else (n : Int) - 65536

/-- The signed value of two bytes, high byte first. -/
def readSigned16 (hi lo : Byte) : Int := signed (read16 hi lo)

/-- A yes/no byte: 1 or 0, any other value outside its range (R161). -/
def readFlag (b : Byte) : Option Bool :=
  if b = 0#8 then some false else if b = 1#8 then some true else none

/-- The byte of a yes/no field (R161). -/
def flagByte (b : Bool) : Byte := if b then 1#8 else 0#8

/-- One shift of the CRC-16 register (R152). -/
def crc16Shift (r : BitVec 16) : BitVec 16 := if r.msb then (r <<< 1) ^^^ 0x1021#16 else r <<< 1

/-- One byte into the CRC-16 register (R152). -/
def crc16Byte (r : BitVec 16) (b : Byte) : BitVec 16 :=
  Nat.repeat crc16Shift 8 (r ^^^ (b.zeroExtend 16 <<< 8))

/-- The CRC-16 of the frames (R152). -/
def crc16 (bytes : List Byte) : BitVec 16 := bytes.foldl crc16Byte 0xFFFF#16

/-- One shift of the CRC-32 register, reflected form (R175). -/
def crc32Shift (r : BitVec 32) : BitVec 32 := if r.getLsbD 0 then (r >>> 1) ^^^ 0xEDB88320#32 else r >>> 1

/-- One byte into the CRC-32 register (R175). -/
def crc32Byte (r : BitVec 32) (b : Byte) : BitVec 32 := Nat.repeat crc32Shift 8 (r ^^^ b.zeroExtend 32)

/-- The CRC-32 of the image and of the hold check (R174, R175). -/
def crc32 (bytes : List Byte) : BitVec 32 := ~~~ (bytes.foldl crc32Byte 0xFFFFFFFF#32)

end Sys2Proof.Machine
end

