-- ==== Sys2Proof/Machine/Geometry.lean ====
section
/-! DEFINITION. Heater geometry and the configuration (spec 01): cells and their indices, lines, groups and slots, the
configuration as one whole, the empty configuration, used lines and served cells. -/
namespace Sys2Proof.Machine

/-- The configuration (R4): one record of each kind per index. -/
structure Configuration where
  lines : Vector LineRecord 128
  cells : Vector CellEntry 640
  passes : Vector PassRecord 8
  globals : GlobalRecord
deriving DecidableEq, Repr

/-- The pass a cell index names (R2). -/
def passOf (i : CellIx) : PassIx := ⟨i.1 / 80, by omega⟩

/-- The tube a cell index names (R2). -/
def tubeOf (i : CellIx) : Nat := i.1 % 80 / 4

/-- The level a cell index names (R2). -/
def levelOf (i : CellIx) : Nat := i.1 % 4

/-- A cell's place in its pass's block of 80 indices (R2). -/
def placeOf (i : CellIx) : Fin 80 := ⟨i.1 % 80, by omega⟩

/-- The cell index of a pass and a place in its block (R2). -/
def cellAt (p : PassIx) (k : Fin 80) : CellIx := ⟨p.1 * 80 + k.1, by omega⟩

/-- The cell index a number names, none above 639 (R2). -/
def cellIx? (n : Nat) : Option CellIx := if h : n < 640 then some ⟨n, h⟩ else none

/-- The line id a number names, none above 127 (R3). -/
def lineIx? (n : Nat) : Option LineIx := if h : n < 128 then some ⟨n, h⟩ else none

/-- The pass a number names, none above 7 (R1). -/
def passIx? (n : Nat) : Option PassIx := if h : n < 8 then some ⟨n, h⟩ else none

/-- The group that serves a line (R3). -/
def groupOf (l : LineIx) : GroupIx := ⟨l.1 / 16, by omega⟩

/-- A line's slot in its group (R3). -/
def slotOf (l : LineIx) : SlotIx := ⟨l.1 % 16, by omega⟩

/-- The line id of a slot of a group (R3). -/
def lineOf (g : GroupIx) (s : SlotIx) : LineIx := ⟨g.1 * 16 + s.1, by omega⟩

/-- A pass is used when its tube count is 1 or more (R1). -/
def passUsed (c : Configuration) (p : PassIx) : Bool := decide (1 ≤ (c.passes.get p).tubeCount)

/-- A place of a pass's block lies below a tube count and a level count (R2). -/
def placeExists (tubes levels : Nat) (k : Fin 80) : Bool := decide (k.1 / 4 < tubes ∧ k.1 % 4 < levels)

/-- A cell exists in a configuration (R2). A tube below the tube count makes the pass used. -/
def cellExists (c : Configuration) (i : CellIx) : Bool :=
  decide (tubeOf i < (c.passes.get (passOf i)).tubeCount ∧ levelOf i < (c.passes.get (passOf i)).levelCount)

/-- The existing cell a number names (R2). -/
def existingCell? (c : Configuration) (n : Nat) : Option CellIx :=
  match cellIx? n with
  | some i => if cellExists c i then some i else none
  | none => none

/-- The used pass a number names (R1). -/
def usedPass? (c : Configuration) (n : Nat) : Option PassIx :=
  match passIx? n with
  | some p => if passUsed c p then some p else none
  | none => none

/-- The existing cells in ascending index: the order of pass processing (R64). -/
def existingCells (c : Configuration) : List CellIx := (List.finRange 640).filter (cellExists c)

/-- An entry names a line as a source. -/
def namesLine (e : CellEntry) (l : LineIx) : Bool := e.sources.any (fun i => decide (i.line = l.1))

/-- The cell a line serves (R3): none for a reference line, an unfitted line, or a line that no existing cell names. A
configuration that passes R17 names a line at most once. DESIGN CHOICE (log 32): after a disturbance of stored entries
more than one existing cell may name it, and the one of lowest index is the served cell. -/
def servedCell (c : Configuration) (l : LineIx) : Option CellIx :=
  if slotOf l = 0 then none
  else if (c.lines.get l).fitted then
    (List.finRange 640).find? (fun i => cellExists c i && namesLine (c.cells.get i) l)
  else none

/-- A used line (R3). -/
def lineUsed (c : Configuration) (l : LineIx) : Bool := (servedCell c l).isSome

/-- The used skin slots of a group in ascending order (R24). -/
def usedSlots (c : Configuration) (g : GroupIx) : List SlotIx :=
  (List.finRange 16).filter (fun s => lineUsed c (lineOf g s))

/-- A group's reference line is fitted (R5). -/
def referenceFitted (c : Configuration) (g : GroupIx) : Bool := (c.lines.get (lineOf g 0)).fitted

/-- A group's settings (R12). -/
def settingsOf (c : Configuration) (g : GroupIx) : GroupSettings := c.globals.groups.get g

/-- The default line record (R5). -/
def defaultLine : LineRecord := { fitted := false, zeroTrim := 0, span := 5000 }

/-- The empty cell entry (R6). -/
def emptyEntry : CellEntry := { sources := [], fallback := none }

/-- The default pass record (R10). -/
def defaultPass : PassRecord :=
  { tubeCount := 0, levelCount := 1, high := 6500, highHigh := 7000, spallHigh := 7000, spallHighHigh := 7400,
    deadband := 50, rateLimit := 200 }

/-- The default global record (R11, R12). -/
def defaultGlobals : GlobalRecord :=
  { sweepPeriod := 1000, staleLimit := 5, staleHold := 30, disagreement := 250, scanMargin := 300,
    scanValidAge := 28800, rateWindow := 30, maxSpall := 1, spallOverdue := 240, multiplierEnable := true,
    relock := .relock, referenceAge := 10, groups := Vector.replicate 8 { window := 64, interleave := 4 } }

/-- The empty configuration (R13). -/
def emptyConfiguration : Configuration :=
  { lines := Vector.replicate 128 defaultLine, cells := Vector.replicate 640 emptyEntry,
    passes := Vector.replicate 8 defaultPass, globals := defaultGlobals }

end Sys2Proof.Machine
end

