-- ==== Sys2Proof/Machine/Checks.lean ====
section
/-! DEFINITION. The range tests of R5 to R12 and the whole-configuration checks (R14 to R17). -/
namespace Sys2Proof.Machine

/-- The reasons of a failure report (R14, R143). -/
inductive CommitReason where
  | range | limitOrder | cellOutside | lineReference | lineUnfitted | fallbackSelf | fallbackOtherPass
  | fallbackMissing | lineReused | cellAlarmed
deriving DecidableEq, Repr

/-- Reason codes (R161). -/
def reasonCode : CommitReason → Nat
  | .range => 1
  | .limitOrder => 2
  | .cellOutside => 3
  | .lineReference => 4
  | .lineUnfitted => 5
  | .fallbackSelf => 6
  | .fallbackOtherPass => 7
  | .fallbackMissing => 8
  | .lineReused => 9
  | .cellAlarmed => 10

/-- A failure report: a reason and a subject, none for the global record (R14). -/
structure FailureReport where
  reason : CommitReason
  subject : Option Nat
deriving DecidableEq, Repr

/-- A line record within the ranges of R5. -/
def lineInRange (r : LineRecord) : Bool :=
  decide (-20000 ≤ r.zeroTrim ∧ r.zeroTrim ≤ 20000 ∧ 4000 ≤ r.span ∧ r.span ≤ 6000)

/-- A source item within the ranges of R6. -/
def sourceInRange (i : SourceItem) : Bool := decide (i.line ≤ 127 ∧ -500 ≤ i.trim ∧ i.trim ≤ 500)

/-- A fallback within the ranges of R7. -/
def fallbackInRange : Option Fallback → Bool
  | none => true
  | some f => decide (f.cell ≤ 639 ∧ -1000 ≤ f.offset ∧ f.offset ≤ 1000)

/-- No line twice in a source list (R6). -/
def noLineTwice : List SourceItem → Bool
  | [] => true
  | i :: rest => !(rest.any fun j => decide (j.line = i.line)) && noLineTwice rest

/-- A cell entry within the ranges of R6, R7, R15, R140. -/
def cellInRange (e : CellEntry) : Bool :=
  decide (e.sources.length ≤ 3) && e.sources.all sourceInRange && noLineTwice e.sources && fallbackInRange e.fallback

/-- A pass record within the ranges of R10. -/
def passInRange (r : PassRecord) : Bool :=
  decide (r.tubeCount ≤ 20 ∧ 1 ≤ r.levelCount ∧ r.levelCount ≤ 4 ∧ r.high ≤ 13500 ∧ r.highHigh ≤ 13500 ∧
    r.spallHigh ≤ 13500 ∧ r.spallHighHigh ≤ 13500 ∧ 5 ≤ r.deadband ∧ r.deadband ≤ 500 ∧
    1 ≤ r.rateLimit ∧ r.rateLimit ≤ 5000)

/-- A group's settings within the ranges of R12. -/
def settingsInRange (g : GroupSettings) : Bool :=
  decide ((g.window = 16 ∨ g.window = 32 ∨ g.window = 64 ∨ g.window = 128 ∨ g.window = 256) ∧
    1 ≤ g.interleave ∧ g.interleave ≤ 8)

/-- A global record within the ranges of R11 and R12. -/
def globalInRange (r : GlobalRecord) : Bool :=
  decide (250 ≤ r.sweepPeriod ∧ r.sweepPeriod ≤ 10000 ∧ 1 ≤ r.staleLimit ∧ r.staleLimit ≤ 60 ∧
    1 ≤ r.staleHold ∧ r.staleHold ≤ 255 ∧ 10 ≤ r.disagreement ∧ r.disagreement ≤ 2000 ∧
    10 ≤ r.scanMargin ∧ r.scanMargin ≤ 2000 ∧ 60 ≤ r.scanValidAge ∧ r.scanValidAge ≤ 86400 ∧
    4 ≤ r.rateWindow ∧ r.rateWindow ≤ 120 ∧ 1 ≤ r.maxSpall ∧ r.maxSpall ≤ 2 ∧
    10 ≤ r.spallOverdue ∧ r.spallOverdue ≤ 1440 ∧ 1 ≤ r.referenceAge ∧ r.referenceAge ≤ 60) &&
  r.groups.toList.all settingsInRange

/-- The global step of the scan (R15). -/
def globalStep (c : Configuration) : Option FailureReport :=
  if globalInRange c.globals then none else some ⟨.range, none⟩

/-- The pass step for one pass: ranges, then LIMIT_ORDER (R10, R15). -/
def passStep (c : Configuration) (p : PassIx) : Option FailureReport :=
  let r := c.passes.get p
  if !passInRange r then some ⟨.range, some p.1⟩
  else if r.high < r.highHigh ∧ r.spallHigh < r.spallHighHigh then none
  else some ⟨.limitOrder, some p.1⟩

/-- The tests of one source item (R16, step 3). -/
def sourceStep (c : Configuration) (i : CellIx) (s : SourceItem) : Option FailureReport :=
  match lineIx? s.line with
  | none => some ⟨.range, some i.1⟩
  | some l =>
    if slotOf l = 0 then some ⟨.lineReference, some i.1⟩
    else if (c.lines.get l).fitted then none
    else some ⟨.lineUnfitted, some i.1⟩

/-- The tests of a fallback (R16, step 4). -/
def fallbackStep (c : Configuration) (i : CellIx) : Option Fallback → Option FailureReport
  | none => none
  | some f =>
    if f.cell = i.1 then some ⟨.fallbackSelf, some i.1⟩
    else if f.cell / 80 ≠ i.1 / 80 then some ⟨.fallbackOtherPass, some i.1⟩
    else match existingCell? c f.cell with
      | some _ => none
      | none => some ⟨.fallbackMissing, some i.1⟩

/-- The cell step for one index (R16). -/
def cellStep (c : Configuration) (i : CellIx) : Option FailureReport :=
  let e := c.cells.get i
  if !cellInRange e then some ⟨.range, some i.1⟩
  else if !cellExists c i then
    (if e.sources.isEmpty && e.fallback.isNone then none else some ⟨.cellOutside, some i.1⟩)
  else match e.sources.findSome? (sourceStep c i) with
    | some r => some r
    | none => fallbackStep c i e.fallback

/-- The number of entries that name a line as a source (R17). -/
def namingCells (c : Configuration) (l : LineIx) : Nat :=
  ((List.finRange 640).filter fun i => namesLine (c.cells.get i) l).length

/-- The line step for one line id (R15, R17). -/
def lineStep (c : Configuration) (l : LineIx) : Option FailureReport :=
  if !lineInRange (c.lines.get l) then some ⟨.range, some l.1⟩
  else if 2 ≤ namingCells c l then some ⟨.lineReused, some l.1⟩
  else none

/-- The first of two reports. -/
def firstReport (a : Option FailureReport) (b : Option FailureReport) : Option FailureReport :=
  match a with
  | some r => some r
  | none => b

/-- The whole-configuration checks in their fixed scan order: the first failing test, or none (R14). -/
def checkConfiguration (c : Configuration) : Option FailureReport :=
  firstReport (globalStep c)
    (firstReport ((List.finRange 8).findSome? (passStep c))
      (firstReport ((List.finRange 640).findSome? (cellStep c))
        ((List.finRange 128).findSome? (lineStep c))))

end Sys2Proof.Machine
end

