-- ==== Sys2Proof/Machine/Codec.lean ====
section
/-! DEFINITION. The record forms of requests, responses and the image (R161, R162), written from one table each, and the
check code of a cell entry (R8, R9), whose check sequence is the cell entry form. -/
namespace Sys2Proof.Machine

/-- The bytes of the signed optional fields: 0x8000 when absent (R161). -/
def optSignedBytes : Option Int → List Byte
  | none => be16 0x8000
  | some x => signedBe16 x

/-- The bytes of an optional 16-bit index: 0xFFFF when absent (R161). -/
def optIndexBytes : Option Nat → List Byte
  | none => be16 0xFFFF
  | some n => be16 n

/-- The bytes of an optional 32-bit frequency: 0xFFFFFFFF when absent (R161). -/
def optFrequencyBytes : Option Int → List Byte
  | none => be32 0xFFFFFFFF
  | some f => be32 f.toNat

/-- Severity codes (R161). -/
def severityCode : Severity → Nat
  | .none => 0
  | .rate => 1
  | .high => 2
  | .highHigh => 3

/-- The severity of a code, none outside the enumeration (R161). -/
def severityOf? (b : Byte) : Option Severity :=
  if b = 0#8 then some .none else if b = 1#8 then some .rate
  else if b = 2#8 then some .high else if b = 3#8 then some .highHigh else none

/-- Pass service state codes (R161). -/
def passStateCode : PassState → Nat
  | .online => 0
  | .spall => 1
  | .offline => 2

/-- The pass service state of a code (R161). -/
def passStateOf? (b : Byte) : Option PassState :=
  if b = 0#8 then some .online else if b = 1#8 then some .spall else if b = 2#8 then some .offline else none

/-- Relock policy codes (R161). -/
def relockCode : RelockPolicy → Nat
  | .relock => 0
  | .ride => 1

/-- The relock policy of a code (R161). -/
def relockOf? (b : Byte) : Option RelockPolicy :=
  if b = 0#8 then some .relock else if b = 1#8 then some .ride else none

/-- Restart cause codes (R161). -/
def causeCode : RestartCause → Nat
  | .powerOn => 0
  | .resetPin => 1
  | .brownout => 2
  | .request => 3
  | .holdLost => 4

/-- The line record form, 5 bytes (R162). -/
def lineForm (r : LineRecord) : List Byte := flagByte r.fitted :: signedBe16 r.zeroTrim ++ be16 r.span

/-- Reading a line record form. A fitted byte other than 0 or 1 lies outside its range. -/
def readLine : List Byte → Option LineRecord
  | [f, z1, z0, s1, s0] =>
    (readFlag f).map fun b => { fitted := b, zeroTrim := readSigned16 z1 z0, span := read16 s1 s0 }
  | _ => none

/-- One source item: line id, trim high, trim low (R8). -/
def sourceForm (i : SourceItem) : List Byte := BitVec.ofNat 8 i.line :: signedBe16 i.trim

/-- The fallback part: marker, and when present the cell index and offset (R8). -/
def fallbackForm : Option Fallback → List Byte
  | none => [0#8]
  | some f => 1#8 :: (be16 f.cell ++ signedBe16 f.offset)

/-- The cell entry form, which is the check sequence of the entry (R8, R162). -/
def cellForm (i : Nat) (e : CellEntry) : List Byte :=
  be16 i ++ (BitVec.ofNat 8 e.sources.length :: (e.sources.flatMap sourceForm ++ fallbackForm e.fallback))

/-- One step of the check code: rotate left by one, then combine by exclusive OR (R9). -/
def checkStep (code value : Byte) : Byte := code.rotateLeft 1 ^^^ value

/-- The check code of a cell entry at its index (R9). -/
def checkCode (i : Nat) (e : CellEntry) : Byte := (cellForm i e).foldl checkStep 0x5A#8

/-- The check codes of all entries of a configuration (R9). -/
def checkCodes (c : Configuration) : Vector Byte 640 := Vector.ofFn fun i => checkCode i.1 (c.cells.get i)

/-- Reading `n` source items from the front. -/
def takeItems : Nat → List Byte → Option (List SourceItem × List Byte)
  | 0, bs => some ([], bs)
  | n + 1, l :: t1 :: t0 :: bs =>
    match takeItems n bs with
    | some (items, rest) => some ({ line := l.toNat, trim := readSigned16 t1 t0 } :: items, rest)
    | none => none
  | _ + 1, _ => none

/-- Reading the fallback part from the front; no other marker than 0 or 1 (R162). -/
def takeFallback : List Byte → Option (Option Fallback × List Byte)
  | m :: bs =>
    if m = 0#8 then some (none, bs)
    else if m = 1#8 then
      match bs with
      | c1 :: c0 :: o1 :: o0 :: rest => some (some { cell := read16 c1 c0, offset := readSigned16 o1 o0 }, rest)
      | _ => none
    else none
  | [] => none

/-- Reading one cell entry form from the front: its index, its entry, and the bytes after it. It is sized by its source
count, whatever its value, and by its marker (R176). -/
def takeCellForm : List Byte → Option (Nat × CellEntry × List Byte)
  | i1 :: i0 :: n :: bs =>
    match takeItems n.toNat bs with
    | some (items, rest) =>
      match takeFallback rest with
      | some (fb, rest') => some (read16 i1 i0, { sources := items, fallback := fb }, rest')
      | none => none
    | none => none
  | _ => none

/-- The pass record form, 14 bytes (R162). -/
def passForm (r : PassRecord) : List Byte :=
  byte1 r.tubeCount ++ byte1 r.levelCount ++ be16 r.high ++ be16 r.highHigh ++ be16 r.spallHigh ++
    be16 r.spallHighHigh ++ be16 r.deadband ++ be16 r.rateLimit

/-- Reading a pass record form. -/
def readPass : List Byte → Option PassRecord
  | [t, l, h1, h0, k1, k0, a1, a0, b1, b0, d1, d0, r1, r0] =>
    some { tubeCount := t.toNat, levelCount := l.toNat, high := read16 h1 h0, highHigh := read16 k1 k0,
           spallHigh := read16 a1 a0, spallHighHigh := read16 b1 b0, deadband := read16 d1 d0,
           rateLimit := read16 r1 r0 }
  | _ => none

/-- One group's settings: N in two bytes, I in one (R162). -/
def settingsForm (g : GroupSettings) : List Byte := be16 g.window ++ byte1 g.interleave

/-- The global record form, 43 bytes (R162). -/
def globalForm (r : GlobalRecord) : List Byte :=
  be16 r.sweepPeriod ++ byte1 r.staleLimit ++ byte1 r.staleHold ++ be16 r.disagreement ++ be16 r.scanMargin ++
    be32 r.scanValidAge ++ byte1 r.rateWindow ++ byte1 r.maxSpall ++ be16 r.spallOverdue ++
    [flagByte r.multiplierEnable] ++ byte1 (relockCode r.relock) ++ byte1 r.referenceAge ++
    r.groups.toList.flatMap settingsForm

/-- Reading the group settings that end a global record form. -/
def readSettings : List Byte → Option (List GroupSettings)
  | [] => some []
  | n1 :: n0 :: i :: bs =>
    match readSettings bs with
    | some gs => some ({ window := read16 n1 n0, interleave := i.toNat } :: gs)
    | none => none
  | _ => none

/-- A list of the right length as a table. -/
def toVector? {α : Type} (n : Nat) (l : List α) : Option (Vector α n) :=
  if h : l.length = n then some ⟨l.toArray, by simpa using h⟩ else none

/-- Reading a global record form; an enable byte or a policy outside its values lies outside its range. -/
def readGlobal : List Byte → Option GlobalRecord
  | p1 :: p0 :: sl :: sh :: d1 :: d0 :: m1 :: m0 :: v3 :: v2 :: v1 :: v0 :: rw :: ms :: o1 :: o0 :: en :: po :: ra :: gs =>
    match readFlag en, relockOf? po, (readSettings gs).bind (toVector? 8) with
    | some enable, some policy, some groups =>
      some { sweepPeriod := read16 p1 p0, staleLimit := sl.toNat, staleHold := sh.toNat,
             disagreement := read16 d1 d0, scanMargin := read16 m1 m0, scanValidAge := read32 v3 v2 v1 v0,
             rateWindow := rw.toNat, maxSpall := ms.toNat, spallOverdue := read16 o1 o0,
             multiplierEnable := enable, relock := policy, referenceAge := ra.toNat, groups := groups }
    | _, _, _ => none
  | _ => none

/-- The body of the image: line records, cell entries, pass records, global record (R175). -/
def bodyForm (c : Configuration) : List Byte :=
  c.lines.toList.flatMap lineForm ++ (List.finRange 640).flatMap (fun i => cellForm i.1 (c.cells.get i)) ++
    c.passes.toList.flatMap passForm ++ globalForm c.globals

end Sys2Proof.Machine
end

