-- ==== Sys2Proof/Machine/Hold.lean ====
section
/-! DEFINITION. The hold domain (R174): its contents, the bytes its check is taken over, and the one way of writing it. -/
namespace Sys2Proof.Machine

/-- The sources of the active configuration (R4). -/
inductive ConfigSource where
  | image | commit | empty | hold
deriving DecidableEq, Repr

/-- Configuration source codes (R161). -/
def sourceCode : ConfigSource → Nat
  | .image => 0
  | .commit => 1
  | .empty => 2
  | .hold => 3

/-- A pass's retained entry (R132). -/
structure RetainedPass where
  state : PassState
  target : Option PassState
deriving DecidableEq, Repr

/-- The contents of the hold domain (R174): the retained configuration with its stored check codes (R9, R19), its
generation and source (R147), the pass entries, the retained alarm table and the restart record (R171). -/
structure HoldContents where
  config : Configuration
  codes : Vector Byte 640
  generation : Half
  source : ConfigSource
  passes : Vector RetainedPass 8
  alarms : Vector (Option RetainedAlarm) 640
  lastCause : RestartCause
  warmCount : Half
deriving DecidableEq, Repr

/-- The hold domain: its contents and the stored hold check (R174). -/
structure HoldDomain where
  contents : HoldContents
  check : Word
deriving DecidableEq, Repr

/-- The bytes of a retained pass entry under the hold check (log 9). -/
def retainedPassBytes (r : RetainedPass) : List Byte :=
  byte1 (passStateCode r.state) ++ (match r.target with | none => [0xFF#8] | some t => byte1 (passStateCode t))

/-- The bytes of a retained alarm entry under the hold check (log 9). -/
def retainedAlarmBytes : Option RetainedAlarm → List Byte
  | none => [0#8]
  | some a => byte1 (severityCode a.severity) ++ optSignedBytes a.peak

/-- DESIGN CHOICE (log 9): the layout of the contents under the hold check, which R174 does not give. -/
def holdBytes (h : HoldContents) : List Byte :=
  bodyForm h.config ++ h.codes.toList ++ be16 h.generation.toNat ++ byte1 (sourceCode h.source) ++
    h.passes.toList.flatMap retainedPassBytes ++ h.alarms.toList.flatMap retainedAlarmBytes ++
    byte1 (causeCode h.lastCause) ++ be16 h.warmCount.toNat

/-- The hold check of contents: the CRC-32 of R175 over them (R174). -/
def holdCrc (h : HoldContents) : Word := crc32 (holdBytes h)

/-- Contents with their check current (R174). -/
def sealHold (h : HoldContents) : HoldDomain := { contents := h, check := holdCrc h }

/-- Contents with a check that does not match (R174, log 10). -/
def unsealHold (h : HoldContents) : HoldDomain := { contents := h, check := ~~~ holdCrc h }

/-- A write and the update of the hold check, one event (R174, log 11). -/
def writeHold (f : HoldContents → HoldContents) (d : HoldDomain) : HoldDomain := sealHold (f d.contents)

/-- The contents a power-on or a failed check leaves before the image is loaded (R174, log 10). -/
def clearedHold (cause : RestartCause) : HoldContents :=
  { config := emptyConfiguration, codes := checkCodes emptyConfiguration, generation := 0#16, source := .empty,
    passes := Vector.replicate 8 { state := .online, target := none }, alarms := Vector.replicate 640 none,
    lastCause := cause, warmCount := 0#16 }

/-- What a disturbance leaves in the hold domain's contents or its check (R174). The stored check is not updated. DESIGN
CHOICE (log 34): contents whose supply is lost read as the cleared values with the last cause kept, so that the warm
restart count reads 0. -/
def upsetHold (u : HoldUpset) (d : HoldDomain) : HoldDomain :=
  let h := d.contents
  match u with
  | .supplyLost => unsealHold (clearedHold h.lastCause)
  | .check v => { d with check := v }
  | .line i r => { d with contents := { h with config := { h.config with lines := put h.config.lines i r } } }
  | .cell i e k =>
    { d with contents := { h with config := { h.config with cells := put h.config.cells i e }, codes := put h.codes i k } }
  | .pass i r => { d with contents := { h with config := { h.config with passes := put h.config.passes i r } } }
  | .globals r => { d with contents := { h with config := { h.config with globals := r } } }
  | .generation v => { d with contents := { h with generation := v } }
  | .passState i st t => { d with contents := { h with passes := put h.passes i { state := st, target := t } } }
  | .alarm i a => { d with contents := { h with alarms := put h.alarms i a } }
  | .restartRecord c n => { d with contents := { h with lastCause := c, warmCount := n } }

end Sys2Proof.Machine
end

