-- ==== Sys2Proof/Machine/Memory.lean ====
section
/-! DEFINITION. The image region of the external flash (R175): 16 KB, byte addressed from 0, as a list of listed bytes
in one canonical form. An unlisted byte reads as erased (log 8). -/
namespace Sys2Proof.Machine

/-- The bytes of the region that differ from the erased byte, addresses strictly rising. -/
abbrev Memory := List Host.Cell

/-- PRESUMED (log 8): an erased byte of the flash reads 0xFF, as serial NOR flash does. Unsafe. -/
def erasedByte : Byte := 0xFF#8

/-- The size of the region (R175). -/
def regionSize : Nat := 16384

/-- The canonical form from address `lo` on: addresses strictly rising inside the region, no erased byte listed. -/
def Memory.wfFrom (lo : Nat) : Memory → Bool
  | [] => true
  | c :: rest => decide (lo ≤ c.1 ∧ c.1 < regionSize ∧ c.2 ≠ erasedByte) && Memory.wfFrom (c.1 + 1) rest

/-- The canonical form of the region. -/
def Memory.wf (m : Memory) : Bool := Memory.wfFrom 0 m

/-- Reading one byte of the region. -/
def readByte : Memory → Nat → Byte
  | [], _ => erasedByte
  | c :: rest, a => if c.1 = a then c.2 else readByte rest a

/-- Writing one byte at its place in the order; an erased byte is unlisted. -/
def insertByte : Memory → Nat → Byte → Memory
  | [], a, b => if b = erasedByte then [] else [(a, b)]
  | c :: rest, a, b =>
    if c.1 < a then c :: insertByte rest a b
    else if c.1 = a then (if b = erasedByte then rest else (a, b) :: rest)
    else if b = erasedByte then c :: rest else (a, b) :: c :: rest

/-- Writing one byte of the region; an address beyond it is no byte of the region. -/
def writeByte (m : Memory) (a : Nat) (b : Byte) : Memory := if a < regionSize then insertByte m a b else m

/-- Writing consecutive bytes from an address on. -/
def writeBytes (m : Memory) (a : Nat) : List Byte → Memory
  | [] => m
  | b :: bs => writeByte (writeBytes m (a + 1) bs) a b

/-- Reading consecutive bytes from an address on. -/
def readBytes (m : Memory) (a n : Nat) : List Byte := (List.range n).map fun k => readByte m (a + k)

/-- Writing bytes at addresses of their own. -/
def writeCells (m : Memory) (cells : List (Nat × Byte)) : Memory := cells.foldl (fun m c => writeByte m c.1 c.2) m

end Sys2Proof.Machine
end

