-- ==== Sys2Proof/Machine/Records.lean ====
section
/-! DEFINITION. The records and enumerations that the blocks' state is made of (spec 02 to 11). -/
namespace Sys2Proof.Machine

/-! ### Capture groups (spec 02) -/

/-- The status of a reading record (R37). -/
inductive ReadingStatus where
  | none | ok | headFault | dutyBad | noSignal | range
deriving DecidableEq, Repr

/-- Quality of a published cell (R79); a reading carries GOOD or DEGRADED (R34). -/
inductive Quality where
  | good | degraded | uncertain | stale | noData | checkFail | offline
deriving DecidableEq, Repr

/-- A reading record (R37). -/
structure Reading where
  status : ReadingStatus
  temperature : Option Int
  frequency : Option Int
  quality : Option Quality
  corrected : Bool
  epoch : Half
  stamp : Word
deriving DecidableEq, Repr

/-- A group's judgement of its reference head (R36). -/
inductive RefStatus where
  | none | ok | fault
deriving DecidableEq, Repr

/-- The most recent accepted reference measurement (R35). -/
structure LastReference where
  frequency : Int
  epoch : Half
  stamp : Word
deriving DecidableEq, Repr

/-- The counting clock recorded at the end of ARM (R26). -/
inductive CountingClock where
  | mhz8 | mhz64
deriving DecidableEq, Repr

/-- The stage of a measurement, with what it has recorded so far (R26 to R28). POST takes no time. -/
inductive MeasureStage where
  | settle
  | arm
  /-- Epoch and clock at the end of ARM, cycles closed, periods counted. -/
  | count (epoch : Half) (clock : CountingClock) (closed periods : Nat)
  /-- Epoch and clock at the end of ARM, the count, and the high time once the falling edge has come. -/
  | width (epoch : Half) (clock : CountingClock) (periods : Nat) (high : Option Nat)
deriving DecidableEq, Repr

/-- The measurement in flight (R22): its line's slot, window, stage, abort count 0 or 1, and the ms since its stage, or
in COUNT its cycle, began. -/
structure Measurement where
  slot : SlotIx
  window : Nat
  stage : MeasureStage
  aborts : Nat
  timer : Nat
deriving DecidableEq, Repr

/-- A capture group (R22). `applied` says that an application arrived during the measurement in flight (R40). -/
structure CaptureGroup where
  parked : Bool
  scanList : List SlotIx
  cursor : Nat
  measurement : Option Measurement
  applied : Bool
  refStatus : RefStatus
  lastRef : Option LastReference
deriving DecidableEq, Repr

/-! ### Timebase unit (spec 03) -/

/-- The timebase states (R45). -/
inductive TimebaseState where
  | holdover | bypass | acquiring | locked
deriving DecidableEq, Repr

/-- The timebase unit (R45). A timer is none while stopped. `gapArmed`: edges have come since the last gap (R46). -/
structure Timebase where
  state : TimebaseState
  breakSeen : Bool
  epoch : Half
  partTime : Word
  proving : Option Nat
  lock : Option Nat
  retry : Option Nat
  gapArmed : Bool
deriving DecidableEq, Repr

/-! ### Configuration unit (spec 01, 08) -/

/-- The active configuration with its check codes, generation and source (R4, R6). -/
structure ActiveConfig where
  config : Configuration
  codes : Vector Byte 640
  generation : Half
  source : ConfigSource
deriving DecidableEq, Repr

/-- The editing state while the edit claim is held (R133): the holder, the staged copy, commit pending, and the claim
timer, none while stopped. -/
structure EditClaim where
  holder : Port
  staged : Configuration
  commitPending : Bool
  timer : Option Word
deriving DecidableEq, Repr

/-! ### Sweep unit (spec 04, 07) -/

/-- Source of a published cell (R79). -/
inductive CellSource where
  | heads | headsSplit | scan | scanOverride | neighbor | held | none
deriving DecidableEq, Repr

/-- A published cell record (R79). -/
structure CellRecord where
  estimate : Option Int
  quality : Quality
  source : CellSource
  contributors : Nat
  rate : Option Int
  age : Nat
  scanPresent : Bool
deriving DecidableEq, Repr

/-- A publication of a pass with its tags (R65); a place whose cell did not exist holds the unpublished record. -/
structure Publication where
  sweep : Word
  generation : Half
  tubeCount : Nat
  levelCount : Nat
  records : Vector CellRecord 80
deriving DecidableEq, Repr

/-- The rate reference: an estimate and the sweep it was taken at (R80). -/
structure RateReference where
  estimate : Int
  sweep : Word
deriving DecidableEq, Repr

/-- The sweep unit's working values of a cell (04, section 4.2). -/
structure Working where
  lastEstimate : Option Int
  staleCounter : Nat
  ageCounter : Nat
  rateRef : Option RateReference
  rate : Option Int
  mismatchReported : Bool
deriving DecidableEq, Repr

/-- A sweep in flight: its number, the cells still to be computed, in order, and the working copy of the pass in
computation (R64, R65). -/
structure SweepRun where
  number : Word
  todo : List CellIx
  working : Vector CellRecord 80
deriving DecidableEq, Repr

/-- A pass state record (R124); the spall timer in ms, none while stopped. -/
structure PassService where
  state : PassState
  target : Option PassState
  spallTimer : Option Nat
  overdueNotified : Bool
deriving DecidableEq, Repr

/-! ### Scan unit (spec 05) -/

/-- A buffered sample (R90). -/
structure Sample where
  cell : CellIx
  temperature : Int
deriving DecidableEq, Repr

/-- An open batch (R90). -/
structure Batch where
  owner : Port
  buffer : List Sample
  lastActivity : Word
  rejectionLogged : Bool
deriving DecidableEq, Repr

/-- A scan-table entry (R90). -/
structure ScanEntry where
  temperature : Int
  stamp : Word
deriving DecidableEq, Repr

/-! ### Alarm unit (spec 06) -/

/-- Alarm record states (R104). -/
inductive AlarmState where
  | idle | raised | held | lingering
deriving DecidableEq, Repr

/-- An alarm record (R104). -/
structure AlarmRecord where
  state : AlarmState
  severity : Severity
  condition : Severity
  peak : Option Int
  raisedSweep : Word
  restored : Bool
deriving DecidableEq, Repr

/-! ### Ports (spec 09) and fault bank (spec 10) -/

/-- A request (R152). -/
structure Request where
  kind : Byte
  tag : Byte
  payload : List Byte
deriving DecidableEq, Repr

/-- Result codes (R161, 9.7.1); 0x00 is never given to an executed request (R156). -/
inductive ResultCode where
  | ok | accepted | rejected | unknownKind | denied | range | noCell | ackMismatch | nothingToAck | badTransition
  | spallLimit | alreadyHeld | heldElsewhere | notHolder | commitPending | batchOpen | batchFull | noBatch
  | storeBusy | noFlash
deriving DecidableEq, Repr

/-- A response: a result code and a payload (R155). -/
structure Reply where
  code : ResultCode
  payload : List Byte
deriving DecidableEq, Repr

/-- A request slot (R154). -/
inductive Slot where
  | empty
  | processing (request : Request)
  | answered (request : Request) (reply : Reply)
deriving DecidableEq, Repr

/-- The notices (R157). -/
inductive Notice where
  | alarmChange | faultNew | configApplied | commitDropped | claimExpired | storeDone | storeFailed | scanExpired
  | spallOverdue | timebaseChange | restarted
deriving DecidableEq, Repr

/-- A notice set of eleven flags (R157). -/
structure NoticeSet where
  alarmChange : Bool
  faultNew : Bool
  configApplied : Bool
  commitDropped : Bool
  claimExpired : Bool
  storeDone : Bool
  storeFailed : Bool
  scanExpired : Bool
  spallOverdue : Bool
  timebaseChange : Bool
  restarted : Bool
deriving DecidableEq, Repr

/-- A port unit (R153, R154, R157). -/
structure PortUnit where
  slot : Slot
  overrun : Bool
  frameError : Bool
  notices : NoticeSet
deriving DecidableEq, Repr

/-- One thing per port. -/
structure PerPort (α : Type) where
  control : α
  trip : α
  service : α
deriving DecidableEq, Repr

/-- Fault kinds (R165). -/
inductive FaultKind where
  | noSignal | headFault | dutyBad | range | refBad | abortRepeat | xtalFail | lockBreak | lockTimeout
  | checkMismatch | holdCheck | scanExpired | sampleRejected | flashAbsent | loadCheck | loadInvalid | storeVerify
  | frameCheck | overrun
deriving DecidableEq, Repr

/-- Fault sources (R165). -/
inductive FaultSource where
  | group (g : GroupIx)
  | timebase | sweep | scan | store
  | port (p : Port)
deriving DecidableEq, Repr

/-- The detail of a fault (R165). -/
inductive Detail where
  | none
  | line (l : LineIx)
  | cell (i : CellIx)
deriving DecidableEq, Repr

/-- A fault source record (R165). -/
structure FaultRecord where
  firstKind : Option FaultKind
  firstStamp : Word
  firstDetail : Detail
  count : Nat
  other : Bool
deriving DecidableEq, Repr

/-! ### Restart controller, image interface and pins (spec 11) -/

/-- The stages of the restart sequence that take time (R173); HOLD_CHECK takes none. -/
inductive RestartStage where
  | resetHeld | imageLoad | running
deriving DecidableEq, Repr

/-- The store states other than NONE (R177). -/
inductive StoreStage where
  | erase | write | verify
deriving DecidableEq, Repr

/-- A store in flight: the requesting port, its state, and what it stores, as it stood at the start (R177). -/
structure StoreOp where
  port : Port
  stage : StoreStage
  config : Configuration
  generation : Half
deriving DecidableEq, Repr

/-- What the flash identification reads as (R176). -/
inductive FlashIdent where
  | allOnes | allZeros | part
deriving DecidableEq, Repr

/-- The external flash as the image interface sees it (R175, log 12). -/
structure Flash where
  ident : FlashIdent
  region : Memory
deriving DecidableEq, Repr

/-- The levels of the input pins and supplies (00, R171, R173, log 14). -/
structure Pins where
  resetLow : Bool
  coreLow : Bool
  holdSupply : Bool
  noflash : Bool
deriving DecidableEq, Repr

end Sys2Proof.Machine
end

