-- ==== Sys2Proof/Machine/Defaults.lean ====
section
/-! DEFINITION. The restart values of the blocks' records (R43, R60, R79, R89, R104, R124, R160, R165). -/
namespace Sys2Proof.Machine

/-- A group before RUNNING, or parked (R43, R23). -/
def CaptureGroup.idle : CaptureGroup :=
  { parked := true, scanList := [], cursor := 0, measurement := none, applied := false, refStatus := .none,
    lastRef := none }

/-- The reading record of status NONE (R37, R43). -/
def Reading.blank : Reading :=
  { status := .none, temperature := none, frequency := none, quality := none, corrected := false, epoch := 0#16,
    stamp := 0#32 }

/-- The timebase unit's restart values (R60, log 20). -/
def Timebase.restart : Timebase :=
  { state := .holdover, breakSeen := false, epoch := 0#16, partTime := 0#32, proving := none, lock := none,
    retry := none, gapArmed := false }

/-- The working values of a cell after a restart (R89). -/
def Working.restart : Working :=
  { lastEstimate := none, staleCounter := 0, ageCounter := 255, rateRef := none, rate := none,
    mismatchReported := false }

/-- The unpublished record (R79). -/
def CellRecord.unpublished : CellRecord :=
  { estimate := none, quality := .noData, source := .none, contributors := 0, rate := none, age := 255,
    scanPresent := false }

/-- A pass state record after a cold restart, and of an unused pass (R124, R132). -/
def PassService.online : PassService :=
  { state := .online, target := none, spallTimer := none, overdueNotified := false }

/-- The IDLE alarm record (R104). -/
def AlarmRecord.idleRecord : AlarmRecord :=
  { state := .idle, severity := .none, condition := .none, peak := none, raisedSweep := 0#32, restored := false }

/-- The empty notice set (R157). -/
def NoticeSet.empty : NoticeSet :=
  { alarmChange := false, faultNew := false, configApplied := false, commitDropped := false, claimExpired := false,
    storeDone := false, storeFailed := false, scanExpired := false, spallOverdue := false, timebaseChange := false,
    restarted := false }

/-- A port unit at RUNNING: RESTARTED alone (R160). -/
def PortUnit.restarted : PortUnit :=
  { slot := .empty, overrun := false, frameError := false, notices := { NoticeSet.empty with restarted := true } }

/-- An empty fault source record (R165). -/
def FaultRecord.empty : FaultRecord :=
  { firstKind := none, firstStamp := 0#32, firstDetail := .none, count := 0, other := false }

end Sys2Proof.Machine
end

