-- ==== Sys2Proof/Machine/State.lean ====
section
/-! DEFINITION. The state of the TM2640 as plain data: every piece of state the spec gives each block (00, Block
Overview), the flash region and the levels of the input pins, and the queue of waiting commands. -/
namespace Sys2Proof.Machine

/-- Why a step stops with a fault: no command does. The spec's own faults are records of the fault bank (R165), after
which the machine goes on. Safe: nothing stops that the spec lets run. -/
inductive Fault where
deriving DecidableEq, Repr

/-- Why a command has no meaning. -/
inductive Refusal where
  /-- Raised by an arm of `exec` whose command has no meaning yet. Safe: the model stops where the hardware goes on. -/
  | notModelled (mnemonic : String)
deriving DecidableEq, Repr

/-- The state of the block. `pending` is the queue of commands that wait, first in, first out; `dataOut` is the bytes the
latest transaction of each port shifted out (log 5). -/
structure State where
  pending : List Instr
  -- restart controller and hold domain
  stage : RestartStage
  cause : RestartCause
  restartPending : Option Word
  strap : Bool
  pins : Pins
  hold : HoldDomain
  -- timebase unit
  timebase : Timebase
  -- capture groups
  groups : Vector CaptureGroup 8
  readings : Vector Reading 128
  -- configuration unit
  active : ActiveConfig
  edit : Option EditClaim
  -- sweep unit
  completed : Word
  nextBoundary : Word
  sweep : Option SweepRun
  published : Vector (Option Publication) 8
  working : Vector Working 640
  passes : Vector PassService 8
  -- scan unit
  batch : Option Batch
  scanTable : Vector (Option ScanEntry) 640
  -- alarm unit
  alarms : Vector AlarmRecord 640
  hotList : List CellIx
  unlisted : Nat
  passAlert : Vector Bool 8
  -- ports
  ports : PerPort PortUnit
  dataOut : PerPort (List Byte)
  -- fault bank
  faults : Vector FaultRecord 15
  -- image interface and flash
  store : Option StoreOp
  flash : Flash
deriving DecidableEq, Repr

/-- The machine right after reset: RUNNING after a power-on whose image load found a blank flash, so that the
configuration is the empty one and STORE holds LOAD_CHECK (R19, R43, R60, R89, R100, R123, R132, R149, R160, R170, R173,
R176; DESIGN CHOICE log 7). -/
def State.reset : State :=
  { pending := [], stage := .running, cause := .powerOn, restartPending := none, strap := false,
    pins := { resetLow := false, coreLow := false, holdSupply := true, noflash := false },
    hold := sealHold (clearedHold .powerOn),
    timebase := Timebase.restart,
    groups := Vector.replicate 8 CaptureGroup.idle,
    readings := Vector.replicate 128 Reading.blank,
    active := { config := emptyConfiguration, codes := checkCodes emptyConfiguration, generation := 0#16,
                source := .empty },
    edit := none,
    completed := 0#32, nextBoundary := 1000#32, sweep := none, published := Vector.replicate 8 none,
    working := Vector.replicate 640 Working.restart, passes := Vector.replicate 8 PassService.online,
    batch := none, scanTable := Vector.replicate 640 none,
    alarms := Vector.replicate 640 AlarmRecord.idleRecord, hotList := [], unlisted := 0,
    passAlert := Vector.replicate 8 false,
    ports := { control := PortUnit.restarted, trip := PortUnit.restarted, service := PortUnit.restarted },
    dataOut := { control := [], trip := [], service := [] },
    faults := put (Vector.replicate 15 FaultRecord.empty) 11
      { firstKind := some .loadCheck, firstStamp := 0#32, firstDetail := .none, count := 1, other := false },
    store := none, flash := { ident := .part, region := [] } }

end Sys2Proof.Machine
end

