-- ==== Sys2Proof/Machine/Flags.lean ====
section
/-! DEFINITION. The flags of a port: the notice set (R157), the status byte (R156) and the attention line (R157). -/
namespace Sys2Proof.Machine

/-- Setting a notice; setting one already set changes nothing (R157). -/
def raiseNotice (n : Notice) (f : NoticeSet) : NoticeSet :=
  match n with
  | .alarmChange => { f with alarmChange := true }
  | .faultNew => { f with faultNew := true }
  | .configApplied => { f with configApplied := true }
  | .commitDropped => { f with commitDropped := true }
  | .claimExpired => { f with claimExpired := true }
  | .storeDone => { f with storeDone := true }
  | .storeFailed => { f with storeFailed := true }
  | .scanExpired => { f with scanExpired := true }
  | .spallOverdue => { f with spallOverdue := true }
  | .timebaseChange => { f with timebaseChange := true }
  | .restarted => { f with restarted := true }

/-- Whether a notice is set. -/
def hasNotice (n : Notice) (f : NoticeSet) : Bool :=
  match n with
  | .alarmChange => f.alarmChange
  | .faultNew => f.faultNew
  | .configApplied => f.configApplied
  | .commitDropped => f.commitDropped
  | .claimExpired => f.claimExpired
  | .storeDone => f.storeDone
  | .storeFailed => f.storeFailed
  | .scanExpired => f.scanExpired
  | .spallOverdue => f.spallOverdue
  | .timebaseChange => f.timebaseChange
  | .restarted => f.restarted

/-- A flag as the bit of a given weight. -/
def weight (b : Bool) (w : Nat) : Nat := if b then w else 0

/-- The notice set as its 16-bit value: bit n for the notice of bit n (R157, R162). -/
def noticeWord (f : NoticeSet) : Nat :=
  weight f.alarmChange 1 + weight f.faultNew 2 + weight f.configApplied 4 + weight f.commitDropped 8 +
  weight f.claimExpired 16 + weight f.storeDone 32 + weight f.storeFailed 64 + weight f.scanExpired 128 +
  weight f.spallOverdue 256 + weight f.timebaseChange 512 + weight f.restarted 1024

/-- The notice set is not empty: the attention line's condition and the NOTICE bit (R156, R157). -/
def anyNotice (f : NoticeSet) : Bool := decide (f ≠ NoticeSet.empty)

/-- A slot that is ANSWERED (R154). -/
def isAnswered : Slot → Bool
  | .empty => false
  | .processing _ => false
  | .answered _ _ => true

/-- The status byte: DONE bit 7, OVERRUN bit 6, FRAME_ERROR bit 5, NOTICE bit 4 (R156). -/
def statusByte (u : PortUnit) : Byte :=
  BitVec.ofNat 8 (weight (isAnswered u.slot) 128 + weight u.overrun 64 + weight u.frameError 32 +
    weight (anyNotice u.notices) 16)

/-- The part of a port. -/
def PerPort.get {α : Type} (v : PerPort α) (p : Port) : α :=
  match p with
  | .control => v.control
  | .trip => v.trip
  | .service => v.service

/-- Replacing the part of a port. -/
def PerPort.set {α : Type} (v : PerPort α) (p : Port) (x : α) : PerPort α :=
  match p with
  | .control => { v with control := x }
  | .trip => { v with trip := x }
  | .service => { v with service := x }

/-- Changing every port's part alike. -/
def PerPort.map {α : Type} (f : α → α) (v : PerPort α) : PerPort α :=
  { control := f v.control, trip := f v.trip, service := f v.service }

/-- The restart sequence has reached RUNNING (R173). -/
def State.running (s : State) : Bool := decide (s.stage = .running)

/-- ATTN_C, ATTN_T, ATTN_S: asserted while the port's notice set is not empty, deasserted through a restart (R157,
R160). -/
def State.attention (s : State) (p : Port) : Bool := s.running && anyNotice (s.ports.get p).notices

end Sys2Proof.Machine
end

