-- ==== Sys2Proof/Machine/Operands.lean ====
section
/-! DEFINITION. Request frames and the request catalogue (R152, R155, R163), result codes, and the codes and forms that
responses carry (R161, R162). -/
namespace Sys2Proof.Machine

/-- The request kinds of the catalogue (R163). -/
inductive RequestKind where
  | getStatus | getNotices | getCell | getPass | getLine | getHotlist | getPassinfo | acknowledge | setPassState
  | claim | release | stageLine | stageCell | stagePass | stageGlobal | commit | getConfig | scanOpen | scanPut
  | scanClose | scanDrop | getFaults | clearFaults | storeImage | restart
deriving DecidableEq, Repr

/-- Every kind of the catalogue, in its order (R163). -/
def allKinds : List RequestKind :=
  [.getStatus, .getNotices, .getCell, .getPass, .getLine, .getHotlist, .getPassinfo, .acknowledge, .setPassState,
   .claim, .release, .stageLine, .stageCell, .stagePass, .stageGlobal, .commit, .getConfig, .scanOpen, .scanPut,
   .scanClose, .scanDrop, .getFaults, .clearFaults, .storeImage, .restart]

/-- The kind byte (R163). -/
def kindByte : RequestKind → Byte
  | .getStatus => 0x01#8
  | .getNotices => 0x02#8
  | .getCell => 0x10#8
  | .getPass => 0x11#8
  | .getLine => 0x12#8
  | .getHotlist => 0x13#8
  | .getPassinfo => 0x14#8
  | .acknowledge => 0x20#8
  | .setPassState => 0x21#8
  | .claim => 0x30#8
  | .release => 0x31#8
  | .stageLine => 0x32#8
  | .stageCell => 0x33#8
  | .stagePass => 0x34#8
  | .stageGlobal => 0x35#8
  | .commit => 0x36#8
  | .getConfig => 0x37#8
  | .scanOpen => 0x40#8
  | .scanPut => 0x41#8
  | .scanClose => 0x42#8
  | .scanDrop => 0x43#8
  | .getFaults => 0x50#8
  | .clearFaults => 0x51#8
  | .storeImage => 0x60#8
  | .restart => 0x61#8

/-- The kind of a byte, none outside the catalogue (R155 test 1). -/
def kindOf? (b : Byte) : Option RequestKind := allKinds.find? fun k => kindByte k = b

/-- The ports admitted for a kind (R163). -/
def admitted (k : RequestKind) (p : Port) : Bool :=
  match k with
  | .getStatus | .getNotices | .getCell | .getPass | .getHotlist | .getPassinfo | .getFaults => true
  | .getLine | .claim | .release | .stageLine | .stageCell | .stagePass | .stageGlobal | .commit | .getConfig
  | .storeImage => decide (p ≠ .trip)
  | .acknowledge => decide (p ≠ .service)
  | .setPassState => decide (p = .control)
  | .scanOpen | .scanPut | .scanClose | .scanDrop | .clearFaults | .restart => decide (p = .service)

/-- The fixed payload length of a kind, none for a variable one (R163). -/
def fixedLength : RequestKind → Option Nat
  | .getStatus | .getNotices | .getHotlist | .claim | .release | .commit | .scanOpen | .scanClose | .scanDrop
  | .getFaults | .storeImage | .restart => some 0
  | .getCell => some 2
  | .getPass | .getLine | .getPassinfo | .clearFaults => some 1
  | .acknowledge => some 3
  | .setPassState => some 2
  | .stageLine => some 6
  | .stagePass => some 15
  | .stageGlobal => some 43
  | .getConfig => some 4
  | .stageCell | .scanPut => none

/-- Tests 2 and 3 of R155: the result code of the first that fails. -/
def admission (k : RequestKind) (p : Port) (length : Nat) : Option ResultCode :=
  if !admitted k p then some .denied
  else match fixedLength k with
    | none => none
    | some n => if length = n then none else some .range

/-- The frame of a request transaction when it is good (R152): the payload length at most 64, exactly 5 bytes more
carried with no trailing bits, and the CRC over kind, tag, length and payload. -/
def readFrame (bytes : List Byte) (trailingBits : Bool) : Option Request :=
  match bytes with
  | kind :: tag :: len :: rest =>
    if trailingBits then none
    else if 64 < len.toNat then none
    else if rest.length ≠ len.toNat + 2 then none
    else
      let payload := rest.take len.toNat
      if be16 (crc16 (kind :: tag :: len :: payload)).toNat = rest.drop len.toNat then
        some { kind := kind, tag := tag, payload := payload }
      else none
  | _ => none

/-- The bytes of a request frame (R152). -/
def requestFrame (r : Request) : List Byte :=
  let head := r.kind :: r.tag :: BitVec.ofNat 8 r.payload.length :: r.payload
  head ++ be16 (crc16 head).toNat

/-- Result code values (9.7.1). -/
def resultByte : ResultCode → Byte
  | .ok => 0x01#8
  | .accepted => 0x02#8
  | .rejected => 0x03#8
  | .unknownKind => 0x10#8
  | .denied => 0x11#8
  | .range => 0x12#8
  | .noCell => 0x13#8
  | .ackMismatch => 0x20#8
  | .nothingToAck => 0x21#8
  | .badTransition => 0x22#8
  | .spallLimit => 0x23#8
  | .alreadyHeld => 0x30#8
  | .heldElsewhere => 0x31#8
  | .notHolder => 0x32#8
  | .commitPending => 0x33#8
  | .batchOpen => 0x40#8
  | .batchFull => 0x41#8
  | .noBatch => 0x42#8
  | .storeBusy => 0x50#8
  | .noFlash => 0x51#8

/-- The response frame from a port unit (R156): status, tag, result code, payload length, payload, CRC-16. -/
def responseFrame (u : PortUnit) : List Byte :=
  let body : List Byte :=
    match u.slot with
    | .empty => statusByte u :: [0#8, 0#8, 0#8, 0#8]
    | .processing r => statusByte u :: r.tag :: [0#8, 0#8, 0#8]
    | .answered r a => statusByte u :: r.tag :: resultByte a.code :: (be16 a.payload.length ++ a.payload)
  body ++ be16 (crc16 body).toNat

/-- Quality codes (R161). -/
def qualityCode : Quality → Nat
  | .good => 0
  | .degraded => 1
  | .uncertain => 2
  | .stale => 3
  | .noData => 4
  | .checkFail => 5
  | .offline => 6

/-- Cell source codes (R161). -/
def cellSourceCode : CellSource → Nat
  | .heads => 0
  | .headsSplit => 1
  | .scan => 2
  | .scanOverride => 3
  | .neighbor => 4
  | .held => 5
  | .none => 6

/-- Alarm state codes (R161). -/
def alarmStateCode : AlarmState → Nat
  | .idle => 0
  | .raised => 1
  | .held => 2
  | .lingering => 3

/-- Reading status codes (R161). -/
def readingStatusCode : ReadingStatus → Nat
  | .none => 0
  | .ok => 1
  | .headFault => 2
  | .dutyBad => 3
  | .noSignal => 4
  | .range => 5

/-- Reference status codes (R161). -/
def refStatusCode : RefStatus → Nat
  | .none => 0
  | .ok => 1
  | .fault => 2

/-- Timebase state codes (R161). -/
def timebaseCode : TimebaseState → Nat
  | .holdover => 0
  | .bypass => 1
  | .acquiring => 2
  | .locked => 3

/-- Claim holder codes (R161): the trip port never holds the claim, and NONE is 0. -/
def holderCode : Option Port → Nat
  | none => 0
  | some .control => 1
  | some .service => 2
  | some .trip => 0

/-- Store state codes (R161). -/
def storeCode : Option StoreStage → Nat
  | none => 0
  | some .erase => 1
  | some .write => 2
  | some .verify => 3

/-- Fault kind codes (R162). -/
def faultKindCode : FaultKind → Nat
  | .noSignal => 0x01
  | .headFault => 0x02
  | .dutyBad => 0x03
  | .range => 0x04
  | .refBad => 0x05
  | .abortRepeat => 0x06
  | .xtalFail => 0x10
  | .lockBreak => 0x11
  | .lockTimeout => 0x12
  | .checkMismatch => 0x20
  | .holdCheck => 0x21
  | .scanExpired => 0x30
  | .sampleRejected => 0x31
  | .flashAbsent => 0x40
  | .loadCheck => 0x41
  | .loadInvalid => 0x42
  | .storeVerify => 0x43
  | .frameCheck => 0x50
  | .overrun => 0x51

/-- An absent one-byte enumeration is 0xFF (R161). -/
def optCodeByte : Option Nat → List Byte
  | none => [0xFF#8]
  | some n => byte1 n

/-- Two four-bit fields in one byte. -/
def nibbles (hi lo : Nat) : List Byte := byte1 (hi * 16 + lo)

/-- The cell record form, 8 bytes, with the alarm state and severity at the time of the request (R162). -/
def cellRecordForm (r : CellRecord) (a : AlarmRecord) : List Byte :=
  optSignedBytes r.estimate ++ nibbles (qualityCode r.quality) (cellSourceCode r.source) ++
    nibbles (alarmStateCode a.state) (severityCode a.severity) ++ optSignedBytes r.rate ++ byte1 r.age ++
    byte1 (r.contributors % 4 + weight r.scanPresent 4)

/-- Condition severity in bits 3 to 0 and restored in bit 7 (R162). DESIGN CHOICE (log 33): bits 6 to 4, which R162 leaves
open here, are sent as 0. -/
def conditionByte (a : AlarmRecord) : List Byte := byte1 (severityCode a.condition + weight a.restored 128)

/-- The alarm record form, 8 bytes (R162). -/
def alarmForm (a : AlarmRecord) : List Byte :=
  nibbles (alarmStateCode a.state) (severityCode a.severity) ++ conditionByte a ++ optSignedBytes a.peak ++
    be32 a.raisedSweep.toNat

/-- A hot list entry, 12 bytes (R162). -/
def hotListForm (i : CellIx) (a : AlarmRecord) (estimate : Option Int) : List Byte :=
  be16 i.1 ++ nibbles (alarmStateCode a.state) (severityCode a.severity) ++ conditionByte a ++
    optSignedBytes estimate ++ optSignedBytes a.peak ++ be32 a.raisedSweep.toNat

/-- The reading record form, 15 bytes (R162). -/
def readingForm (r : Reading) : List Byte :=
  byte1 (readingStatusCode r.status) ++ optCodeByte (r.quality.map qualityCode) ++ [flagByte r.corrected] ++
    optSignedBytes r.temperature ++ optFrequencyBytes r.frequency ++ be16 r.epoch.toNat ++ be32 r.stamp.toNat

/-- Detail kind and detail (R162, R168): none 0 with 0xFFFF, line 1, cell 2. -/
def detailForm : Detail → List Byte
  | .none => byte1 0 ++ be16 0xFFFF
  | .line l => byte1 1 ++ be16 l.1
  | .cell i => byte1 2 ++ be16 i.1

/-- The fault record form, 10 bytes (R162, R168). -/
def faultForm (r : FaultRecord) : List Byte :=
  optCodeByte (r.firstKind.map faultKindCode) ++ be32 r.firstStamp.toNat ++ detailForm r.firstDetail ++
    byte1 r.count ++ [flagByte r.other]

end Sys2Proof.Machine
end

