-- ==== Sys2Proof/Machine/Ops.lean ====
section
/-! DEFINITION. The operations every block shares: setting notices, handing faults, writing the hold domain, the passing
of part time, and the execution of the request in a port's slot. -/
namespace Sys2Proof.Machine

/-- Replacing one port unit. -/
def State.setPort (s : State) (p : Port) (u : PortUnit) : State := { s with ports := s.ports.set p u }

/-- Setting a notice on one port (R157). -/
def notify (p : Port) (n : Notice) (s : State) : State :=
  s.setPort p { s.ports.get p with notices := raiseNotice n (s.ports.get p).notices }

/-- Setting a notice on the control, trip and service ports (R157). -/
def notifyAll (n : Notice) (s : State) : State :=
  { s with ports := s.ports.map fun u => { u with notices := raiseNotice n u.notices } }

/-- The number of a fault source (R165). -/
def sourceIx : FaultSource → Fin 15
  | .group g => ⟨g.1, by omega⟩
  | .timebase => 8
  | .sweep => 9
  | .scan => 10
  | .store => 11
  | .port .control => 12
  | .port .trip => 13
  | .port .service => 14

/-- What a record becomes when it takes a fault (R166). -/
def takeFault (kind : FaultKind) (stamp : Word) (detail : Detail) (r : FaultRecord) : FaultRecord :=
  if r.count = 0 then
    { firstKind := some kind, firstStamp := stamp, firstDetail := detail, count := 1, other := false }
  else
    { r with count := if r.count < 255 then r.count + 1 else 255,
             other := r.other || decide (r.firstKind ≠ some kind) }

/-- Handing a fault to its source, stamped with part time; outside a restart sequence a fault that finds its record
empty sets FAULT_NEW on every port (R166, R167). -/
def handFault (src : FaultSource) (kind : FaultKind) (detail : Detail) (s : State) : State :=
  let r := s.faults.get (sourceIx src)
  let s' := { s with faults := put s.faults (sourceIx src) (takeFault kind s.timebase.partTime detail r) }
  if r.count = 0 ∧ s.running then notifyAll .faultNew s' else s'

/-- A write to the hold domain with its check kept current (R174). -/
def retain (f : HoldContents → HoldContents) (s : State) : State := { s with hold := writeHold f s.hold }

/-- The longest time the spall timer counts: 65535 minutes in ms (R130). -/
def spallCap : Nat := 65535 * 60000

/-- The stage timer of the measurement in flight runs (R26 to R28). -/
def elapseGroup (ms : Nat) (g : CaptureGroup) : CaptureGroup :=
  { g with measurement := g.measurement.map fun m => { m with timer := m.timer + ms } }

/-- The spall timer runs up to its cap (R130). -/
def elapsePass (ms : Nat) (p : PassService) : PassService :=
  { p with spallTimer := p.spallTimer.map fun t => min (t + ms) spallCap }

/-- Part time and the timebase unit's timers run (R59). -/
def elapseTimebase (ms : Nat) (t : Timebase) : Timebase :=
  { t with partTime := t.partTime + BitVec.ofNat 32 ms, proving := t.proving.map (· + ms), lock := t.lock.map (· + ms),
           retry := t.retry.map (· + ms) }

/-- The passing of `ms` milliseconds of part time (R59, log 1). From the start of a restart sequence until RUNNING no part
time is counted and no timer runs (R60). -/
def elapse (ms : Nat) (s : State) : State :=
  if s.running then
    { s with timebase := elapseTimebase ms s.timebase, groups := s.groups.map (elapseGroup ms),
             passes := s.passes.map (elapsePass ms) }
  else s

/-- The slot goes from PROCESSING to ANSWERED with its response (R154). -/
def answerSlot (p : Port) (req : Request) (r : Reply) (s : State) : State :=
  s.setPort p { s.ports.get p with slot := .answered req r }

/-- A result code without a payload (R155). -/
def codeOnly (c : ResultCode) : Reply := { code := c, payload := [] }

/-- OK with a payload. -/
def okWith (payload : List Byte) : Reply := { code := .ok, payload := payload }

/-- An owner of a request: it takes the port and the payload as one event at its own state and returns a response
(R155). -/
abbrev Owner := Port → List Byte → State → State × Reply

/-- Execution of the request of kind `k` in a port's slot (R155): the tests of the catalogue, then the owner. A slot that
holds no request of that kind in PROCESSING has none to execute, and nothing changes (log 2). -/
def serve (k : RequestKind) (owner : Owner) (p : Port) (s : State) : State :=
  match (s.ports.get p).slot with
  | .processing req =>
    if s.running ∧ req.kind = kindByte k then
      match admission k p req.payload.length with
      | some code => answerSlot p req (codeOnly code) s
      | none => answerSlot p req (owner p req.payload s).2 (owner p req.payload s).1
    else s
  | .empty => s
  | .answered _ _ => s

/-- An owner that reads and changes nothing. -/
def reading (f : Port → List Byte → State → Reply) : Owner := fun p payload s => (s, f p payload s)

/-- The value of a two-byte payload. -/
def payload16 : List Byte → Nat
  | [hi, lo] => read16 hi lo
  | _ => 65535

/-- The value of a one-byte payload. -/
def payload8 : List Byte → Nat
  | [b] => b.toNat
  | _ => 255

end Sys2Proof.Machine
end

