-- ==== Sys2Proof/Machine/Timebase.lean ====
section
/-! DEFINITION. The timebase unit (spec 03): its state changes and the events of the crystal, the lock detector and its
own timers. -/
namespace Sys2Proof.Machine

/-- The multiplier enable in force (R45, R61). -/
def multiplierEnabled (s : State) : Bool := s.active.config.globals.multiplierEnable

/-- The counting clock (R45): 64 MHz in LOCKED, an 8 MHz source in every other state. -/
def countingClock (t : Timebase) : CountingClock := if t.state = .locked then .mhz64 else .mhz8

/-- A change of timebase state: the epoch rises by one and TIMEBASE_CHANGE is set on all ports (R57, R58). -/
def changeTimebase (t : Timebase) (s : State) : State :=
  notifyAll .timebaseChange { s with timebase := { t with epoch := t.epoch + 1#16 } }

/-- A set or clear of break-seen with no change of state: the epoch rises by one (R57, R58). -/
def changeBreakSeen (b : Bool) (s : State) : State :=
  { s with timebase := { s.timebase with breakSeen := b, epoch := s.timebase.epoch + 1#16 } }

/-- The start of an acquisition (R49). -/
def startAcquisition (s : State) : State :=
  changeTimebase { s.timebase with state := .acquiring, lock := some 0, retry := none } s

/-- A move to BYPASS with the multiplier stopped and no retry (R47, R56). -/
def goBypass (s : State) : State :=
  changeTimebase
    { s.timebase with state := .bypass, breakSeen := false, proving := none, lock := none, retry := none } s

/-- A crystal failure (R48). -/
def crystalFailure (s : State) : State :=
  handFault .timebase .xtalFail .none
    (changeTimebase
      { s.timebase with state := .holdover, breakSeen := false, proving := none, lock := none, retry := none,
                        gapArmed := false } s)

/-- A crystal gap of 2 µs (R46): reported once until edges come again. -/
def crystalGapEvent (s : State) : State :=
  if s.running ∧ s.timebase.gapArmed then
    match s.timebase.state with
    | .holdover => { s with timebase := { s.timebase with proving := none, gapArmed := false } }
    | .bypass => crystalFailure s
    | .acquiring => crystalFailure s
    | .locked => crystalFailure s
  else s

/-- A crystal edge (R46, R47): in HOLDOVER the first one starts the proving timer from zero; every edge re-arms gap
reporting. -/
def crystalEdgeEvent (s : State) : State :=
  if s.running then
    match s.timebase.state, s.timebase.proving with
    | .holdover, none => { s with timebase := { s.timebase with proving := some 0, gapArmed := true } }
    | _, _ => { s with timebase := { s.timebase with gapArmed := true } }
  else s

/-- A stopped timer has reached nothing; a running one has reached `ms`. -/
def timerAt (ms : Nat) (t : Option Nat) : Bool :=
  match t with
  | none => false
  | some k => decide (ms ≤ k)

/-- The crystal restore at 64 ms of proving (R47). -/
def crystalRestoreEvent (s : State) : State :=
  if s.running ∧ s.timebase.state = .holdover ∧ timerAt 64 s.timebase.proving then
    if multiplierEnabled s then startAcquisition (goBypass s) else goBypass s
  else s

/-- A filtered lock report (R50, R52, R54). -/
def lockReportEvent (s : State) : State :=
  if s.running then
    match s.timebase.state with
    | .holdover => s
    | .bypass => s
    | .acquiring => changeTimebase { s.timebase with state := .locked, breakSeen := false, lock := none } s
    | .locked => if s.timebase.breakSeen then changeBreakSeen false s else s
  else s

/-- A filtered loss-of-lock report (R52, R53, R54, R55). -/
def lossOfLockEvent (s : State) : State :=
  if s.running then
    match s.timebase.state with
    | .holdover => s
    | .bypass => s
    | .acquiring => s
    | .locked =>
      if s.timebase.breakSeen then s
      else match s.active.config.globals.relock with
        | .relock =>
          handFault .timebase .lockBreak .none
            (changeTimebase { s.timebase with state := .acquiring, lock := some 0 } s)
        | .ride => handFault .timebase .lockBreak .none (changeBreakSeen true s)
  else s

/-- The lock timeout at 10 ms of acquisition (R51). -/
def lockTimeoutEvent (s : State) : State :=
  if s.running ∧ s.timebase.state = .acquiring ∧ timerAt 10 s.timebase.lock then
    handFault .timebase .lockTimeout .none
      (changeTimebase { s.timebase with state := .bypass, lock := none, retry := some 0 } s)
  else s

/-- The retry expiry at 1 s (R51). -/
def retryExpiryEvent (s : State) : State :=
  if s.running ∧ s.timebase.state = .bypass ∧ timerAt 1000 s.timebase.retry then startAcquisition s else s

/-- An application's change of the multiplier enable (R56): `before` and `after` are the enables of the replaced and the
new active configuration. -/
def takeUpEnable (before after : Bool) (s : State) : State :=
  if before = after then s
  else if after then
    match s.timebase.state with
    | .bypass => startAcquisition s
    | .holdover => s
    | .acquiring => s
    | .locked => s
  else
    match s.timebase.state with
    | .holdover => s
    | .bypass => { s with timebase := { s.timebase with retry := none } }
    | .acquiring => goBypass s
    | .locked => goBypass s

/-- CRYSTAL_GAP (R46, R48). -/
def execCrystalGap (s : State) : Host.Outcome State Fault Refusal := .next (crystalGapEvent s)

/-- CRYSTAL_EDGE (R46, R47). -/
def execCrystalEdge (s : State) : Host.Outcome State Fault Refusal := .next (crystalEdgeEvent s)

/-- CRYSTAL_RESTORE (R47). -/
def execCrystalRestore (elapsed : Nat) (s : State) : Host.Outcome State Fault Refusal :=
  .next (crystalRestoreEvent (elapse elapsed s))

/-- LOCK_REPORT (R50, R52, R54). -/
def execLockReport (s : State) : Host.Outcome State Fault Refusal := .next (lockReportEvent s)

/-- LOSS_OF_LOCK_REPORT (R52 to R54). -/
def execLossOfLockReport (s : State) : Host.Outcome State Fault Refusal := .next (lossOfLockEvent s)

/-- LOCK_TIMEOUT (R51). -/
def execLockTimeout (elapsed : Nat) (s : State) : Host.Outcome State Fault Refusal :=
  .next (lockTimeoutEvent (elapse elapsed s))

/-- RETRY_EXPIRY (R51). -/
def execRetryExpiry (elapsed : Nat) (s : State) : Host.Outcome State Fault Refusal :=
  .next (retryExpiryEvent (elapse elapsed s))

end Sys2Proof.Machine
end

