-- ==== Sys2Proof/Machine/Capture.lean ====
section
/-! DEFINITION. The capture groups (spec 02): scan lists, the measurement, classification and conversion, the reading
record, and what an application does to a group. -/
namespace Sys2Proof.Machine

/-! ### Scan list (R24) -/

/-- The skin slots after the leading reference: the reference again after every I-th, but not after the last (R24).
`k` counts down to the next reference entry. DESIGN CHOICE (log 38): an interleave of 0, as a disturbance may leave it, gives
the leading reference alone. -/
def placeReferences (interleave : Nat) : Nat → List SlotIx → List SlotIx
  | _, [] => []
  | _, [x] => [x]
  | k, x :: y :: rest =>
    if k = 1 then x :: 0 :: placeReferences interleave interleave (y :: rest)
    else x :: placeReferences interleave (k - 1) (y :: rest)

/-- The scan list of a group under a configuration; empty when the group has no used line (R23, R24). -/
def scanListOf (c : Configuration) (g : GroupIx) : List SlotIx :=
  let slots := usedSlots c g
  if slots.isEmpty then []
  else if referenceFitted c g then
    0 :: placeReferences (settingsOf c g).interleave (settingsOf c g).interleave slots
  else slots

/-! ### Starting measurements (R25, R26) -/

/-- A measurement of a slot in SETTLE, with the window of the active configuration (R26). -/
def freshMeasurement (c : Configuration) (g : GroupIx) (slot : SlotIx) (aborts : Nat) : Measurement :=
  { slot := slot, window := (settingsOf c g).window, stage := .settle, aborts := aborts, timer := 0 }

/-- Replacing a group. -/
def State.setGroup (s : State) (g : GroupIx) (x : CaptureGroup) : State := { s with groups := put s.groups g x }

/-- The position after the cursor, from the last entry the first (R25). -/
def nextCursor (x : CaptureGroup) : Nat := if x.cursor + 1 < x.scanList.length then x.cursor + 1 else 0

/-- The next entry's measurement starts at once (R25). -/
def moveOn (c : Configuration) (g : GroupIx) (x : CaptureGroup) : CaptureGroup :=
  { x with cursor := nextCursor x,
           measurement := (x.scanList[nextCursor x]?).map fun slot => freshMeasurement c g slot 0 }

/-- The same line again, with abort count 1 (R29). -/
def retryEntry (c : Configuration) (g : GroupIx) (slot : SlotIx) (x : CaptureGroup) : CaptureGroup :=
  { x with measurement := some (freshMeasurement c g slot 1) }

/-- A group takes up a configuration (R23, R24, R41, R44): it decides whether it is parked, builds its scan list and
starts the first entry. The reference survives only where the group stays unparked and its reference fitted. -/
def takeUp (c : Configuration) (g : GroupIx) (x : CaptureGroup) : CaptureGroup :=
  match scanListOf c g with
  | [] => CaptureGroup.idle
  | slot :: rest =>
    { parked := false, scanList := slot :: rest, cursor := 0, measurement := some (freshMeasurement c g slot 0),
      applied := false,
      refStatus := if !x.parked && referenceFitted c g then x.refStatus else .none,
      lastRef := if !x.parked && referenceFitted c g then x.lastRef else none }

/-- What an application does to a group at once (R36, R40, R41, log 17): a group with a measurement in flight finishes it
first; a reference left unfitted is dropped at once; a parked group takes the configuration up. -/
def applyToGroup (c : Configuration) (g : GroupIx) (x : CaptureGroup) : CaptureGroup :=
  match x.measurement with
  | none => takeUp c g x
  | some _ =>
    if referenceFitted c g then { x with applied := true }
    else { x with applied := true, refStatus := .none, lastRef := none }

/-! ### Frequency, duty, classification and conversion (R21, R28, R30 to R35) -/

/-- The nominal rate of the counting clock (R26, R30). -/
def clockHz : CountingClock → Int
  | .mhz8 => 8000000
  | .mhz64 => 64000000

/-- The measured frequency in 0.01 Hz (R30). -/
def measuredFrequency (window : Nat) (clock : CountingClock) (periods : Nat) : Int :=
  roundDiv (100 * window * clockHz clock) periods

/-- The duty in tenths of a percent (R28). -/
def measuredDuty (window periods high : Nat) : Int := roundDiv (high * 1000 * window : Nat) periods

/-- The duty classes (R21). -/
inductive DutyClass where
  | healthy | headFault | dutyBad
deriving DecidableEq, Repr

/-- The class of a duty (R21). -/
def dutyClass (d : Int) : DutyClass :=
  if 400 ≤ d ∧ d ≤ 600 then .healthy else if 200 ≤ d ∧ d ≤ 300 then .headFault else .dutyBad

/-- How a measurement reached POST: without a signal, or with a count and a high time (R28). -/
inductive Gathered where
  | noSignal
  | counted (clock : CountingClock) (periods high : Nat)
deriving DecidableEq, Repr

/-- The corrected frequency (R32). -/
def correctedFrequency (f ref : Int) : Int := roundDiv (f * 500000) ref.toNat

/-- The last reference that may correct a reading: present, of the same epoch, and within the reference age limit (R32). -/
def usableReference (limitSeconds : Nat) (now : Word) (epoch : Half) (r : Option LastReference) :
    Option LastReference :=
  match r with
  | none => none
  | some ref => if ref.epoch = epoch ∧ age now ref.stamp ≤ limitSeconds * 1000 then some ref else none

/-- The temperature of a frequency, in tenths (R33). -/
def convert (f zeroTrim : Int) (span : Nat) : Int := roundDiv ((f - (200000 + zeroTrim)) * 100) span

/-- The quality of an OK reading (R34). -/
def readingQuality (corrected : Bool) (t : Timebase) : Quality :=
  if corrected then .good
  else match t.state with
    | .locked => if t.breakSeen then .degraded else .good
    | .bypass => .good
    | .acquiring => .good
    | .holdover => .degraded

/-- A reading record of a status other than OK (R37). -/
def badReading (status : ReadingStatus) (frequency : Option Int) (t : Timebase) : Reading :=
  { status := status, temperature := none, frequency := frequency, quality := none, corrected := false,
    epoch := t.epoch, stamp := t.partTime }

/-- A converted skin reading: OK within the valid range, else RANGE with the frequency converted (R33, R37). -/
def convertedReading (line : LineRecord) (f : Int) (corrected : Bool) (t : Timebase) : Reading :=
  let temp := convert f line.zeroTrim line.span
  if tempOk temp then
    { status := .ok, temperature := some temp, frequency := some f, quality := some (readingQuality corrected t),
      corrected := corrected, epoch := t.epoch, stamp := t.partTime }
  else badReading .range (some f) t

/-- The reading record a skin-line result gives (R31 to R34, R37). -/
def skinReading (line : LineRecord) (limitSeconds window : Nat) (ref : Option LastReference) (t : Timebase) :
    Gathered → Reading
  | .noSignal => badReading .noSignal none t
  | .counted clock periods high =>
    let f := measuredFrequency window clock periods
    if f < 150000 ∨ 850000 < f then badReading .range (some f) t
    else match dutyClass (measuredDuty window periods high) with
      | .headFault => badReading .headFault (some f) t
      | .dutyBad => badReading .dutyBad (some f) t
      | .healthy =>
        match usableReference limitSeconds t.partTime t.epoch ref with
        | some r => convertedReading line (correctedFrequency f r.frequency) true t
        | none => convertedReading line f false t

/-- The reading record a reference-line result gives; status OK says accepted (R35, R37). -/
def referenceReading (window : Nat) (t : Timebase) : Gathered → Reading
  | .noSignal => badReading .noSignal none t
  | .counted clock periods high =>
    let f := measuredFrequency window clock periods
    if f < 485000 ∨ 515000 < f then badReading .range (some f) t
    else match dutyClass (measuredDuty window periods high) with
      | .headFault => badReading .headFault (some f) t
      | .dutyBad => badReading .dutyBad (some f) t
      | .healthy =>
        { status := .ok, temperature := none, frequency := some f, quality := some (readingQuality false t),
          corrected := false, epoch := t.epoch, stamp := t.partTime }

/-! ### POST (R29, R36, R38 to R41) -/

/-- The fault of a line's fall from OK or NONE (R39). -/
def fallFault (before after : ReadingStatus) : Option FaultKind :=
  match before with
  | .none | .ok =>
    match after with
    | .none => none
    | .ok => none
    | .noSignal => some .noSignal
    | .headFault => some .headFault
    | .dutyBad => some .dutyBad
    | .range => some .range
  | .headFault | .dutyBad | .noSignal | .range => none

/-- A stored skin-line result replaces the record whole; a fall hands its fault (R38, R39). -/
def storeSkin (g : GroupIx) (l : LineIx) (r : Reading) (s : State) : State :=
  let s' := { s with readings := put s.readings l r }
  match fallFault (s.readings.get l).status r.status with
  | some k => handFault (.group g) k (.line l) s'
  | none => s'

/-- The last reference after a reference result: the accepted one, else none (R35). -/
def referenceOf (r : Reading) : Option LastReference :=
  match r.status, r.frequency with
  | .ok, some f => some { frequency := f, epoch := r.epoch, stamp := r.stamp }
  | _, _ => none

/-- The reference status after a reference result (R36). -/
def judgedReference (r : Reading) : RefStatus := if r.status = .ok then .ok else .fault

/-- A stored reference result: the record, the last reference and the reference status; entering FAULT hands REF_BAD
(R35, R36, R38). -/
def storeReference (g : GroupIx) (r : Reading) (s : State) : State :=
  let x := s.groups.get g
  let l := lineOf g 0
  let s' := { s with readings := put s.readings l r }.setGroup g
    { x with refStatus := judgedReference r, lastRef := referenceOf r }
  if judgedReference r = .fault ∧ x.refStatus ≠ .fault then handFault (.group g) .refBad (.line l) s' else s'

/-- The result of a measurement is classified and stored (R29, R31, R35). -/
def storeResult (g : GroupIx) (m : Measurement) (x : Gathered) (s : State) : State :=
  if m.slot = 0 then storeReference g (referenceReading m.window s.timebase x) s
  else
    storeSkin g (lineOf g m.slot)
      (skinReading (s.active.config.lines.get (lineOf g m.slot)) s.active.config.globals.referenceAge m.window
        (s.groups.get g).lastRef s.timebase x) s

/-- The measured line is still wanted under the active configuration (R40 step 2). -/
def stillWanted (c : Configuration) (g : GroupIx) (slot : SlotIx) : Bool :=
  if slot = 0 then referenceFitted c g && !(usedSlots c g).isEmpty else lineUsed c (lineOf g slot)

/-- Changing a group by a function of the active configuration. -/
def updateGroup (f : Configuration → GroupIx → CaptureGroup → CaptureGroup) (g : GroupIx) (s : State) : State :=
  s.setGroup g (f s.active.config g (s.groups.get g))

/-- POST of a measurement during which an application arrived (R40, R41): an abort is discarded without retry or fault,
a line no longer wanted is discarded, and the group takes up the configuration. -/
def postApplied (g : GroupIx) (m : Measurement) (epoch : Half) (x : Gathered) (s : State) : State :=
  updateGroup takeUp g
    (if s.timebase.epoch = epoch ∧ stillWanted s.active.config g m.slot then storeResult g m x s else s)

/-- POST of any other measurement (R29, R25): equal epochs store the result and move on; a first abort measures the line
again; a second hands ABORT_REPEAT and moves on. -/
def postPlain (g : GroupIx) (m : Measurement) (epoch : Half) (x : Gathered) (s : State) : State :=
  if s.timebase.epoch = epoch then updateGroup moveOn g (storeResult g m x s)
  else if m.aborts = 0 then updateGroup (fun c g' => retryEntry c g' m.slot) g s
  else updateGroup moveOn g (handFault (.group g) .abortRepeat (.line (lineOf g m.slot)) s)

/-- POST (R29, R40): `epoch` is the one kept at the end of ARM. -/
def post (g : GroupIx) (m : Measurement) (epoch : Half) (x : Gathered) (s : State) : State :=
  if (s.groups.get g).applied then postApplied g m epoch x s else postPlain g m epoch x s

/-! ### The stages (R26 to R28) -/

/-- Ten milliseconds, the limit of ARM and of every cycle (R26 to R28). -/
def edgeLimit : Nat := 10

/-- The most counting-clock periods within 10 ms: of the recorded clock while the epoch has not changed since the end of
ARM, else of the faster one (R27, log 6). -/
def periodLimit (epoch : Half) (clock : CountingClock) (t : Timebase) : Nat :=
  if t.epoch = epoch ∧ clock = .mhz8 then 80000 else 640000

/-- The measurement in flight of a group outside a restart sequence. -/
def inFlight (g : GroupIx) (s : State) : Option Measurement :=
  if s.running then (s.groups.get g).measurement else none

/-- The measurement passes to another stage, its timer from zero. -/
def toStage (g : GroupIx) (m : Measurement) (stage : MeasureStage) (s : State) : State :=
  s.setGroup g { s.groups.get g with measurement := some { m with stage := stage, timer := 0 } }

/-- The end of SETTLE after 1 ms (R26). -/
def settleEndEvent (g : GroupIx) (s : State) : State :=
  match inFlight g s with
  | none => s
  | some m => if m.stage = .settle ∧ 1 ≤ m.timer then toStage g m .arm s else s

/-- A rising edge in ARM: the epoch and the counting clock are recorded and COUNT starts (R26, R27). -/
def armEdgeEvent (g : GroupIx) (s : State) : State :=
  match inFlight g s with
  | none => s
  | some m =>
    if m.stage = .arm ∧ m.timer ≤ edgeLimit then
      toStage g m (.count s.timebase.epoch (countingClock s.timebase) 0 0) s
    else s

/-- 10 ms in ARM without a rising edge: NO_SIGNAL, with the epoch read at that moment, and POST (R26). -/
def armTimeoutEvent (g : GroupIx) (s : State) : State :=
  match inFlight g s with
  | none => s
  | some m => if m.stage = .arm ∧ edgeLimit ≤ m.timer then post g m s.timebase.epoch .noSignal s else s

/-- A rising edge that closes a cycle before the N-th (R27). -/
def cycleCloseEvent (g : GroupIx) (periods : Nat) (s : State) : State :=
  match inFlight g s with
  | none => s
  | some m =>
    match m.stage with
    | .count epoch clock closed total =>
      if closed + 1 < m.window ∧ m.timer ≤ edgeLimit ∧ 2 ≤ periods ∧ periods ≤ periodLimit epoch clock s.timebase then
        toStage g m (.count epoch clock (closed + 1) (total + periods)) s
      else s
    | .settle | .arm | .width _ _ _ _ => s

/-- The rising edge that closes the N-th cycle: COUNT ends with its count and WIDTH starts (R27, R28). -/
def countEndEvent (g : GroupIx) (periods : Nat) (s : State) : State :=
  match inFlight g s with
  | none => s
  | some m =>
    match m.stage with
    | .count epoch clock closed total =>
      if closed + 1 = m.window ∧ m.timer ≤ edgeLimit ∧ 2 ≤ periods ∧ periods ≤ periodLimit epoch clock s.timebase then
        toStage g m (.width epoch clock (total + periods) none) s
      else s
    | .settle | .arm | .width _ _ _ _ => s

/-- A cycle of COUNT that does not close within 10 ms (R27). -/
def countTimeoutEvent (g : GroupIx) (s : State) : State :=
  match inFlight g s with
  | none => s
  | some m =>
    match m.stage with
    | .count epoch _ _ _ => if edgeLimit ≤ m.timer then post g m epoch .noSignal s else s
    | .settle | .arm | .width _ _ _ _ => s

/-- The falling edge of the width cycle: its high time (R28). The cycle's 10 ms go on. DESIGN CHOICE (log 6): a high time
of no whole counting-clock period, for which R28 gives no lower bound, is taken as no edge. -/
def fallingEdgeEvent (g : GroupIx) (periods : Nat) (s : State) : State :=
  match inFlight g s with
  | none => s
  | some m =>
    match m.stage with
    | .width epoch clock total none =>
      if m.timer ≤ edgeLimit ∧ 1 ≤ periods ∧ periods ≤ periodLimit epoch clock s.timebase then
        s.setGroup g { s.groups.get g with
          measurement := some { m with stage := .width epoch clock total (some periods) } }
      else s
    | .width _ _ _ (some _) | .settle | .arm | .count _ _ _ _ => s

/-- The rising edge that closes the width cycle: POST with a count and a high time (R28). -/
def widthEndEvent (g : GroupIx) (s : State) : State :=
  match inFlight g s with
  | none => s
  | some m =>
    match m.stage with
    | .width epoch clock total (some high) =>
      if m.timer ≤ edgeLimit then post g m epoch (.counted clock total high) s else s
    | .width _ _ _ none | .settle | .arm | .count _ _ _ _ => s

/-- A width cycle that does not close within 10 ms (R28). -/
def widthTimeoutEvent (g : GroupIx) (s : State) : State :=
  match inFlight g s with
  | none => s
  | some m =>
    match m.stage with
    | .width epoch _ _ _ => if edgeLimit ≤ m.timer then post g m epoch .noSignal s else s
    | .settle | .arm | .count _ _ _ _ => s

/-- The age at which readings and scan entries are retired: 2^31 ms (R38, R97). -/
def retireAge : Nat := 2147483648

/-- A reading record whose age reaches 2^31 ms is retired to status NONE (R38). -/
def readingRetireEvent (l : LineIx) (s : State) : State :=
  if s.running ∧ (s.readings.get l).status ≠ .none ∧ retireAge ≤ age s.timebase.partTime (s.readings.get l).stamp then
    { s with readings := put s.readings l Reading.blank }
  else s

/-! ### GET_LINE (R42) -/

/-- The last reference's frequency and age as reported, both absent without one (R42, R163). -/
def lastReferenceBytes (now : Word) : Option LastReference → List Byte
  | none => optFrequencyBytes none ++ be32 0xFFFFFFFF
  | some r => optFrequencyBytes (some r.frequency) ++ be32 (age now r.stamp)

/-- The payload of GET_LINE (R42, R163). -/
def linePayload (l : LineIx) (s : State) : List Byte :=
  let g := s.groups.get (groupOf l)
  let c := s.active.config
  byte1 l.1 ++ byte1 (if slotOf l = 0 then 1 else 0) ++ [flagByte (c.lines.get l).fitted, flagByte (lineUsed c l)] ++
    optIndexBytes ((servedCell c l).map fun i => i.1) ++ readingForm (s.readings.get l) ++ [flagByte g.parked] ++
    byte1 (refStatusCode g.refStatus) ++ lastReferenceBytes s.timebase.partTime g.lastRef

/-- GET_LINE names one line id; above 127 it is answered RANGE (R42). -/
def ownGetLine : Owner := reading fun _ payload s =>
  match lineIx? (payload8 payload) with
  | none => codeOnly .range
  | some l => okWith (linePayload l s)

/-- SETTLE_END (R26). -/
def execSettleEnd (group : GroupIx) (elapsed : Nat) (s : State) : Host.Outcome State Fault Refusal :=
  .next (settleEndEvent group (elapse elapsed s))

/-- ARM_EDGE (R26). -/
def execArmEdge (group : GroupIx) (s : State) : Host.Outcome State Fault Refusal := .next (armEdgeEvent group s)

/-- ARM_TIMEOUT (R26). -/
def execArmTimeout (group : GroupIx) (elapsed : Nat) (s : State) : Host.Outcome State Fault Refusal :=
  .next (armTimeoutEvent group (elapse elapsed s))

/-- COUNT_END (R27). -/
def execCountEnd (group : GroupIx) (periods : Nat) (s : State) : Host.Outcome State Fault Refusal :=
  .next (countEndEvent group periods s)

/-- COUNT_TIMEOUT (R27). -/
def execCountTimeout (group : GroupIx) (elapsed : Nat) (s : State) : Host.Outcome State Fault Refusal :=
  .next (countTimeoutEvent group (elapse elapsed s))

/-- CYCLE_CLOSE (R27). -/
def execCycleClose (group : GroupIx) (periods : Nat) (s : State) : Host.Outcome State Fault Refusal :=
  .next (cycleCloseEvent group periods s)

/-- FALLING_EDGE (R28). -/
def execFallingEdge (group : GroupIx) (periods : Nat) (s : State) : Host.Outcome State Fault Refusal :=
  .next (fallingEdgeEvent group periods s)

/-- WIDTH_END (R28). -/
def execWidthEnd (group : GroupIx) (s : State) : Host.Outcome State Fault Refusal := .next (widthEndEvent group s)

/-- WIDTH_TIMEOUT (R28). -/
def execWidthTimeout (group : GroupIx) (elapsed : Nat) (s : State) : Host.Outcome State Fault Refusal :=
  .next (widthTimeoutEvent group (elapse elapsed s))

/-- READING_RETIRE (R38). -/
def execReadingRetire (line : LineIx) (elapsed : Nat) (s : State) : Host.Outcome State Fault Refusal :=
  .next (readingRetireEvent line (elapse elapsed s))

/-- GET_LINE (R42). -/
def execGetLine (port : Port) (s : State) : Host.Outcome State Fault Refusal := .next (serve .getLine ownGetLine port s)

end Sys2Proof.Machine
end

