-- ==== Sys2Proof/Machine/Scan.lean ====
section
/-! DEFINITION. The scan unit (spec 05): the batch, the scan table, expiry, retirement, and the clearing at an
application. -/
namespace Sys2Proof.Machine

/-- The most samples of a buffer (R90). -/
def bufferLimit : Nat := 256

/-- The interval after which an idle batch expires, in ms (R96). -/
def batchLife : Nat := 30000

/-- The age at which a scan-table entry is retired (R97). -/
def scanRetireAge : Nat := 2147483648

/-- The buffer holds a sample for a cell. -/
def buffered (i : CellIx) (buffer : List Sample) : Bool := buffer.any fun x => decide (x.cell = i)

/-- A sample put at its cell's place, in place of any sample of that cell. The buffer is kept in ascending cell index, an
order no result depends on (R90). -/
def putSample (x : Sample) : List Sample → List Sample
  | [] => [x]
  | y :: rest =>
    if y.cell.1 < x.cell.1 then y :: putSample x rest
    else if y.cell = x.cell then x :: rest
    else x :: y :: rest

/-- The four counts of a taken SCAN_PUT (R93). -/
structure PutTally where
  accepted : Nat
  replaced : Nat
  rejected : Nat
  refused : Nat
deriving DecidableEq, Repr

/-- A SCAN_PUT while its samples are handled: the batch, the counts, and the detail of the fault it logs. -/
structure PutRun where
  batch : Batch
  tally : PutTally
  logged : Option Detail
deriving DecidableEq, Repr

/-- The detail of a rejection: the cell index named, none above 639 (R93). -/
def rejectionDetail (index : Nat) : Detail :=
  match cellIx? index with
  | some i => .cell i
  | none => .none

/-- A rejected sample: the first of its batch is logged (R92, R93). -/
def rejectSample (index : Nat) (run : PutRun) : PutRun :=
  { batch := { run.batch with rejectionLogged := true },
    tally := { run.tally with rejected := run.tally.rejected + 1 },
    logged := if run.batch.rejectionLogged then run.logged else some (rejectionDetail index) }

/-- The outcome of one sample: rejected, replaced, refused or accepted, the first that applies (R92). -/
def handleSample (c : Configuration) (run : PutRun) (x : Nat × Int) : PutRun :=
  match existingCell? c x.1 with
  | none => rejectSample x.1 run
  | some i =>
    if !tempOk x.2 then rejectSample x.1 run
    else if buffered i run.batch.buffer then
      { run with batch := { run.batch with buffer := putSample { cell := i, temperature := x.2 } run.batch.buffer },
                 tally := { run.tally with replaced := run.tally.replaced + 1 } }
    else if bufferLimit ≤ run.batch.buffer.length then
      { run with tally := { run.tally with refused := run.tally.refused + 1 } }
    else
      { run with batch := { run.batch with buffer := putSample { cell := i, temperature := x.2 } run.batch.buffer },
                 tally := { run.tally with accepted := run.tally.accepted + 1 } }

/-- The samples of a payload after its count: none unless it is made of whole samples (R92). -/
def readSamples : List Byte → Option (List (Nat × Int))
  | [] => some []
  | c1 :: c0 :: t1 :: t0 :: rest =>
    match readSamples rest with
    | some xs => some ((read16 c1 c0, readSigned16 t1 t0) :: xs)
    | none => none
  | _ => none

/-- The samples of a SCAN_PUT whose count is 1 to 12 and matches the payload length (R92 test 2). -/
def putSamples : List Byte → Option (List (Nat × Int))
  | n :: rest =>
    match readSamples rest with
    | some xs => if 1 ≤ n.toNat ∧ n.toNat ≤ 12 ∧ xs.length = n.toNat then some xs else none
    | none => none
  | [] => none

/-- SCAN_OPEN (R91). -/
def ownScanOpen : Owner := fun p _ s =>
  match s.batch with
  | some _ => (s, codeOnly .batchOpen)
  | none =>
    ({ s with batch := some { owner := p, buffer := [], lastActivity := s.timebase.partTime,
                              rejectionLogged := false } }, codeOnly .ok)

/-- The samples of a taken SCAN_PUT handled in order (R92). -/
def runPut (c : Configuration) (b : Batch) (xs : List (Nat × Int)) : PutRun :=
  xs.foldl (handleSample c)
    { batch := b, tally := { accepted := 0, replaced := 0, rejected := 0, refused := 0 }, logged := none }

/-- The response of a taken SCAN_PUT (R93). -/
def putReply (t : PutTally) : Reply :=
  { code := if t.refused = 0 then .ok else .batchFull,
    payload := byte1 t.accepted ++ byte1 t.replaced ++ byte1 t.rejected ++ byte1 t.refused }

/-- The SAMPLE_REJECTED fault of a SCAN_PUT that logs one (R93). -/
def logRejection (d : Option Detail) (s : State) : State :=
  match d with
  | none => s
  | some detail => handFault .scan .sampleRejected detail s

/-- SCAN_PUT (R92, R93). -/
def ownScanPut : Owner := fun _ payload s =>
  match s.batch with
  | none => (s, codeOnly .noBatch)
  | some b =>
    match putSamples payload with
    | none => (s, codeOnly .range)
    | some xs =>
      let run := runPut s.active.config b xs
      (logRejection run.logged
        { s with batch := some { run.batch with lastActivity := s.timebase.partTime } }, putReply run.tally)

/-- The buffer applied to the scan table, every entry with one stamp (R94). -/
def applyBuffer (stamp : Word) (buffer : List Sample) (t : Vector (Option ScanEntry) 640) :
    Vector (Option ScanEntry) 640 :=
  buffer.foldl (fun t x => put t x.cell (some { temperature := x.temperature, stamp := stamp })) t

/-- SCAN_CLOSE (R94). -/
def ownScanClose : Owner := fun _ _ s =>
  match s.batch with
  | none => (s, codeOnly .noBatch)
  | some b =>
    ({ s with batch := none, scanTable := applyBuffer s.timebase.partTime b.buffer s.scanTable },
     okWith (be16 b.buffer.length))

/-- SCAN_DROP (R95). -/
def ownScanDrop : Owner := fun _ _ s =>
  match s.batch with
  | none => (s, codeOnly .noBatch)
  | some b => ({ s with batch := none }, okWith (be16 b.buffer.length))

/-- The expiry of an open batch (R96). -/
def batchExpiryEvent (s : State) : State :=
  match s.batch with
  | none => s
  | some b =>
    if s.running ∧ batchLife ≤ age s.timebase.partTime b.lastActivity then
      notify b.owner .scanExpired (handFault .scan .scanExpired .none { s with batch := none })
    else s

/-- The retirement of a scan-table entry whose age reaches 2^31 ms (R97). -/
def scanEntryRetireEvent (i : CellIx) (s : State) : State :=
  match s.scanTable.get i with
  | none => s
  | some e =>
    if s.running ∧ scanRetireAge ≤ age s.timebase.partTime e.stamp then
      { s with scanTable := put s.scanTable i none }
    else s

/-- A cell ceases to exist at an application from `before` to `after`. -/
def vanishes (before after : Configuration) (i : CellIx) : Bool := cellExists before i && !cellExists after i

/-- The clearing of the scan table and the buffer at an application (R98). -/
def clearVanished (before after : Configuration) (s : State) : State :=
  { s with
    scanTable := Vector.ofFn fun i => if vanishes before after i then none else s.scanTable.get i
    batch := s.batch.map fun b => { b with buffer := b.buffer.filter fun x => !vanishes before after x.cell } }

/-- SCAN_OPEN (R91). -/
def execScanOpen (port : Port) (s : State) : Host.Outcome State Fault Refusal :=
  .next (serve .scanOpen ownScanOpen port s)

/-- SCAN_PUT (R92, R93). -/
def execScanPut (port : Port) (s : State) : Host.Outcome State Fault Refusal :=
  .next (serve .scanPut ownScanPut port s)

/-- SCAN_CLOSE (R94). -/
def execScanClose (port : Port) (s : State) : Host.Outcome State Fault Refusal :=
  .next (serve .scanClose ownScanClose port s)

/-- SCAN_DROP (R95). -/
def execScanDrop (port : Port) (s : State) : Host.Outcome State Fault Refusal :=
  .next (serve .scanDrop ownScanDrop port s)

/-- BATCH_EXPIRY (R96). -/
def execBatchExpiry (elapsed : Nat) (s : State) : Host.Outcome State Fault Refusal :=
  .next (batchExpiryEvent (elapse elapsed s))

/-- SCAN_ENTRY_RETIRE (R97). -/
def execScanEntryRetire (cell : CellIx) (elapsed : Nat) (s : State) : Host.Outcome State Fault Refusal :=
  .next (scanEntryRetireEvent cell (elapse elapsed s))

end Sys2Proof.Machine
end

