-- ==== Sys2Proof/Machine/Edit.lean ====
section
/-! DEFINITION. Configuration editing (spec 08): the claim, its timer, staging, GET_CONFIG, COMMIT. -/
namespace Sys2Proof.Machine

/-- The time without configuration work after which a claim expires, in ms (R135). -/
def claimLife : Nat := 300000

/-- Replacing the editing state. -/
def State.setEdit (s : State) (e : Option EditClaim) : State := { s with edit := e }

/-- The claim timer restarted at the part time of a holder's request while no commit is pending (R135). -/
def restartTimer (now : Word) (e : EditClaim) : EditClaim := if e.commitPending then e else { e with timer := some now }

/-- The editing state when a port is the claim holder (R138 test 1). -/
def heldBy (p : Port) (s : State) : Option EditClaim :=
  match s.edit with
  | none => none
  | some e => if e.holder = p then some e else none

/-! ### CLAIM and RELEASE (R134, R137) -/

/-- CLAIM (R134). -/
def ownClaim : Owner := fun p _ s =>
  match s.edit with
  | none =>
    (s.setEdit (some { holder := p, staged := s.active.config, commitPending := false,
                       timer := some s.timebase.partTime }), okWith (be16 s.active.generation.toNat))
  | some e =>
    if e.holder = p then (s, { code := .alreadyHeld, payload := [flagByte e.commitPending] })
    else (s, { code := .heldElsewhere, payload := byte1 (holderCode (some e.holder)) ++ [flagByte e.commitPending] })

/-- RELEASE (R137). -/
def ownRelease : Owner := fun p _ s =>
  match heldBy p s with
  | none => (s, codeOnly .notHolder)
  | some e => if e.commitPending then (s, codeOnly .commitPending) else (s.setEdit none, codeOnly .ok)

/-! ### Staging (R138 to R141) -/

/-- A STAGE request by the tests of R138: the record written whole into the staged copy, or RANGE; the timer restarts
either way (R135). -/
def stage (write : List Byte → Configuration → Option Configuration) : Owner := fun p payload s =>
  match heldBy p s with
  | none => (s, codeOnly .notHolder)
  | some e =>
    if e.commitPending then (s, codeOnly .commitPending)
    else match write payload e.staged with
      | none => (s.setEdit (some (restartTimer s.timebase.partTime e)), codeOnly .range)
      | some c => (s.setEdit (some { restartTimer s.timebase.partTime e with staged := c }), codeOnly .ok)

/-- STAGE_LINE's record (R139). -/
def writeLine : List Byte → Configuration → Option Configuration
  | l :: form, c =>
    match lineIx? l.toNat, readLine form with
    | some i, some r => if lineInRange r then some { c with lines := put c.lines i r } else none
    | _, _ => none
  | [], _ => none

/-- STAGE_PASS's record (R139). -/
def writePass : List Byte → Configuration → Option Configuration
  | p :: form, c =>
    match passIx? p.toNat, readPass form with
    | some i, some r => if passInRange r then some { c with passes := put c.passes i r } else none
    | _, _ => none
  | [], _ => none

/-- STAGE_CELL's record (R140): one cell entry form that fills the payload. -/
def writeCell (payload : List Byte) (c : Configuration) : Option Configuration :=
  match takeCellForm payload with
  | some (n, e, []) =>
    match cellIx? n with
    | some i => if cellInRange e then some { c with cells := put c.cells i e } else none
    | none => none
  | _ => none

/-- STAGE_GLOBAL's record (R141). -/
def writeGlobal (payload : List Byte) (c : Configuration) : Option Configuration :=
  match readGlobal payload with
  | some r => if globalInRange r then some { c with globals := r } else none
  | none => none

/-! ### GET_CONFIG (R142) -/

/-- The record GET_CONFIG names by kind and index; the check code flag and code follow a cell entry (R142, R163). -/
def configForm (c : Configuration) (codeBytes : CellIx → List Byte) (kind : Byte) (index : Nat) :
    Option (List Byte) :=
  if kind = 0#8 then (lineIx? index).map fun l => lineForm (c.lines.get l)
  else if kind = 1#8 then (cellIx? index).map fun i => cellForm i.1 (c.cells.get i) ++ codeBytes i
  else if kind = 2#8 then (passIx? index).map fun p => passForm (c.passes.get p)
  else if kind = 3#8 then (if index = 0 then some (globalForm c.globals) else none)
  else none

/-- The check code of an active entry: present, and the stored code (R142). -/
def activeCodeBytes (a : ActiveConfig) (i : CellIx) : List Byte := [1#8, a.codes.get i]

/-- The check code of a staged entry: absent, a flag of 0 and a code of 0x00 (R142, R164). -/
def stagedCodeBytes (_ : CellIx) : List Byte := [0#8, 0x00#8]

/-- The reply that carries a record form after the generation, or RANGE (R142, R163). -/
def configReply (s : State) (form : Option (List Byte)) : Reply :=
  match form with
  | none => codeOnly .range
  | some bytes => okWith (be16 s.active.generation.toNat ++ bytes)

/-- GET_CONFIG of the staged copy, a holder request that restarts the timer (R135, R138, R142). -/
def getStaged (p : Port) (kind : Byte) (index : Nat) (s : State) : State × Reply :=
  match heldBy p s with
  | none => (s, codeOnly .notHolder)
  | some e =>
    (s.setEdit (some (restartTimer s.timebase.partTime e)),
     configReply s (configForm e.staged stagedCodeBytes kind index))

/-- GET_CONFIG (R142): copy ACTIVE 0 from any admitted port, STAGED 1 from the holder; another copy is RANGE. -/
def ownGetConfig : Owner := fun p payload s =>
  match payload with
  | [copy, kind, hi, lo] =>
    if copy = 0#8 then
      (s, configReply s (configForm s.active.config (activeCodeBytes s.active) kind (read16 hi lo)))
    else if copy = 1#8 then getStaged p kind (read16 hi lo) s
    else (s, codeOnly .range)
  | _ => (s, codeOnly .range)

/-! ### COMMIT (R143) -/

/-- The first cell that a configuration would remove while its record is not IDLE: the CELL_ALARMED test (R143). -/
def alarmedVanishing (alarms : Vector AlarmRecord 640) (before after : Configuration) : Option CellIx :=
  (List.finRange 640).find? fun i => vanishes before after i && decide ((alarms.get i).state ≠ .idle)

/-- The failure report of a COMMIT: the whole-configuration checks, then CELL_ALARMED (R143). -/
def commitReport (s : State) (staged : Configuration) : Option FailureReport :=
  match checkConfiguration staged with
  | some r => some r
  | none => (alarmedVanishing s.alarms s.active.config staged).map fun i => ⟨.cellAlarmed, some i.1⟩

/-- The payload of a REJECTED answer (R163). -/
def reportBytes (r : FailureReport) : List Byte := byte1 (reasonCode r.reason) ++ optIndexBytes r.subject

/-- COMMIT (R143). -/
def ownCommit : Owner := fun p _ s =>
  match heldBy p s with
  | none => (s, codeOnly .notHolder)
  | some e =>
    if e.commitPending then (s, codeOnly .commitPending)
    else match commitReport s e.staged with
      | some r => (s.setEdit (some (restartTimer s.timebase.partTime e)), { code := .rejected, payload := reportBytes r })
      | none => (s.setEdit (some { e with commitPending := true, timer := none }), codeOnly .accepted)

/-! ### Expiry (R135) -/

/-- The expiry of the claim (R135): the staged copy is discarded and the former holder is told. -/
def claimExpiryEvent (s : State) : State :=
  match s.edit with
  | none => s
  | some e =>
    match e.timer with
    | none => s
    | some t =>
      if s.running ∧ claimLife ≤ age s.timebase.partTime t then notify e.holder .claimExpired (s.setEdit none) else s

/-- CLAIM (R134). -/
def execClaim (port : Port) (s : State) : Host.Outcome State Fault Refusal := .next (serve .claim ownClaim port s)

/-- RELEASE (R137). -/
def execRelease (port : Port) (s : State) : Host.Outcome State Fault Refusal := .next (serve .release ownRelease port s)

/-- STAGE_LINE (R139). -/
def execStageLine (port : Port) (s : State) : Host.Outcome State Fault Refusal :=
  .next (serve .stageLine (stage writeLine) port s)

/-- STAGE_CELL (R140). -/
def execStageCell (port : Port) (s : State) : Host.Outcome State Fault Refusal :=
  .next (serve .stageCell (stage writeCell) port s)

/-- STAGE_PASS (R139). -/
def execStagePass (port : Port) (s : State) : Host.Outcome State Fault Refusal :=
  .next (serve .stagePass (stage writePass) port s)

/-- STAGE_GLOBAL (R141). -/
def execStageGlobal (port : Port) (s : State) : Host.Outcome State Fault Refusal :=
  .next (serve .stageGlobal (stage writeGlobal) port s)

/-- COMMIT (R143). -/
def execCommit (port : Port) (s : State) : Host.Outcome State Fault Refusal := .next (serve .commit ownCommit port s)

/-- GET_CONFIG (R142). -/
def execGetConfig (port : Port) (s : State) : Host.Outcome State Fault Refusal :=
  .next (serve .getConfig ownGetConfig port s)

/-- CLAIM_EXPIRY (R135). -/
def execClaimExpiry (elapsed : Nat) (s : State) : Host.Outcome State Fault Refusal :=
  .next (claimExpiryEvent (elapse elapsed s))

end Sys2Proof.Machine
end

