-- ==== Sys2Proof/Machine/Alarm.lean ====
section
/-! DEFINITION. The alarm unit (spec 06): the hand-off and its condition, the moves of a record, the hot list, the alert
lines, acknowledgement. -/
namespace Sys2Proof.Machine

/-! ### The hand-off and its condition (R83, R101 to R103) -/

/-- What the sweep hands the alarm unit for a cell (R83). -/
structure HandOff where
  cell : CellIx
  sweep : Word
  estimate : Option Int
  quality : Quality
  rate : Option Int
  passState : PassState
  high : Int
  highHigh : Int
  deadband : Int
  rateLimit : Int
deriving DecidableEq, Repr

/-- A quality that makes the condition known (R101). -/
def knownQuality : Quality → Bool
  | .good => true
  | .degraded => true
  | .uncertain => true
  | .stale => false
  | .noData => false
  | .checkFail => false
  | .offline => false

/-- Rank of a severity, in rising order (R101). -/
def severityRank : Severity → Nat
  | .none => 0
  | .rate => 1
  | .high => 2
  | .highHigh => 3

/-- The higher of two severities (R105). -/
def higherSeverity (a b : Severity) : Severity := if severityRank a < severityRank b then b else a

/-- The RATE raise test (R102): made outside SPALL on a present rate. -/
def rateRaises (h : HandOff) : Bool :=
  match h.rate with
  | none => false
  | some r => decide (h.passState ≠ .spall ∧ h.rateLimit ≤ r)

/-- The test severity: the highest raise test passed (R102). -/
def testSeverity (h : HandOff) (estimate : Int) : Severity :=
  if h.highHigh ≤ estimate then .highHigh
  else if h.high ≤ estimate then .high
  else if rateRaises h then .rate
  else .none

/-- The RATE hold test (R103). -/
def rateHolds (h : HandOff) : Bool :=
  match h.rate with
  | none => false
  | some r => decide (h.passState ≠ .spall ∧ 3 * h.rateLimit ≤ 4 * r)

/-- The hold test of a level (R103). Level NONE is never held. -/
def holdTest (h : HandOff) (estimate : Int) : Severity → Bool
  | .none => false
  | .rate => rateHolds h
  | .high => decide (h.high - h.deadband ≤ estimate)
  | .highHigh => decide (h.highHigh - h.deadband ≤ estimate)

/-- The condition severity of a known hand-off, held up by hysteresis from the level before it (R103). -/
def conditionSeverity (h : HandOff) (estimate : Int) (before : Severity) : Severity :=
  let t := testSeverity h estimate
  if severityRank before ≤ severityRank t then t
  else if holdTest h estimate before then before
  else t

/-! ### The record's moves (R105, R106, R109) -/

/-- The peak after a known hand-off that leaves the record outside IDLE (R105). -/
def raisePeak (peak : Option Int) (estimate : Int) : Option Int :=
  match peak with
  | none => some estimate
  | some p => some (if p < estimate then estimate else p)

/-- A record moved by a known hand-off of condition `c` (R105). -/
def moveKnown (sweep : Word) (estimate : Int) (c : Severity) (a : AlarmRecord) : AlarmRecord :=
  match a.state with
  | .idle =>
    if c = .none then AlarmRecord.idleRecord
    else { state := .raised, severity := c, condition := c, peak := some estimate, raisedSweep := sweep,
           restored := false }
  | .raised =>
    if c = .none then { a with state := .lingering, condition := c, peak := raisePeak a.peak estimate }
    else { a with severity := higherSeverity a.severity c, condition := c, peak := raisePeak a.peak estimate }
  | .held =>
    if c = .none then AlarmRecord.idleRecord
    else if severityRank a.severity < severityRank c then
      { a with state := .raised, severity := c, condition := c, peak := raisePeak a.peak estimate,
               raisedSweep := sweep }
    else { a with condition := c, peak := raisePeak a.peak estimate }
  | .lingering =>
    if c = .none then { a with condition := c, peak := raisePeak a.peak estimate }
    else
      { a with state := .raised, severity := higherSeverity a.severity c, condition := c,
               peak := raisePeak a.peak estimate,
               raisedSweep := if a.raisedSweep = 0#32 then sweep else a.raisedSweep }

/-- A record at an unknown hand-off: kept, but for HELD in an OFFLINE pass (R106). -/
def moveUnknown (passState : PassState) (a : AlarmRecord) : AlarmRecord :=
  if a.state = .held ∧ passState = .offline then AlarmRecord.idleRecord else a

/-- A record moved by a hand-off (R101). A known hand-off always carries an estimate (R101). -/
def moveRecord (h : HandOff) (a : AlarmRecord) : AlarmRecord :=
  if knownQuality h.quality then
    match h.estimate with
    | some e => moveKnown h.sweep e (conditionSeverity h e a.condition) a
    | none => a
  else moveUnknown h.passState a

/-- A record moved by a taken acknowledgement (R109): RAISED to HELD, LINGERING to IDLE, restored cleared. -/
def moveAcknowledged (a : AlarmRecord) : AlarmRecord :=
  match a.state with
  | .raised => { a with state := .held, restored := false }
  | .lingering => AlarmRecord.idleRecord
  | .idle => a
  | .held => a

/-! ### The hot list (R112) -/

/-- The most entries of the hot list (R112). -/
def hotListLimit : Nat := 16

/-- State as a key: RAISED and LINGERING before HELD (R112). -/
def stateRank : AlarmState → Nat
  | .raised => 1
  | .lingering => 1
  | .held => 0
  | .idle => 0

/-- Peak as a key; absent never occurs outside IDLE (R114). DESIGN CHOICE (log 36): where a disturbance of the retained
table has left one absent all the same, it ranks below every temperature. -/
def peakKey (p : Option Int) : Int := p.getD (-32768)

/-- Hot-list order of two cells with their records: severity, state, peak, then cell index (R112). -/
def ranksBefore (i : CellIx) (a : AlarmRecord) (j : CellIx) (b : AlarmRecord) : Bool :=
  if severityRank a.severity ≠ severityRank b.severity then decide (severityRank b.severity < severityRank a.severity)
  else if stateRank a.state ≠ stateRank b.state then decide (stateRank b.state < stateRank a.state)
  else if peakKey a.peak ≠ peakKey b.peak then decide (peakKey b.peak < peakKey a.peak)
  else decide (i.1 < j.1)

/-- Inserting a cell at its place in the order. -/
def insertRanked (alarms : Vector AlarmRecord 640) (i : CellIx) : List CellIx → List CellIx
  | [] => [i]
  | j :: rest =>
    if ranksBefore i (alarms.get i) j (alarms.get j) then i :: j :: rest
    else j :: insertRanked alarms i rest

/-- The cells whose record is not IDLE, ascending. -/
def alarmedCells (alarms : Vector AlarmRecord 640) : List CellIx :=
  (List.finRange 640).filter fun i => (alarms.get i).state ≠ .idle

/-- All non-IDLE records in hot-list order (R112). -/
def rankedCells (alarms : Vector AlarmRecord 640) : List CellIx :=
  (alarmedCells alarms).foldr (insertRanked alarms) []

/-- The hot list and the unlisted count, from all 640 records (R112, R113). -/
def rebuildHotList (s : State) : State :=
  { s with hotList := (rankedCells s.alarms).take hotListLimit,
           unlisted := (rankedCells s.alarms).length - hotListLimit }

/-! ### The alert lines and the change of a record (R107, R115 to R117) -/

/-- Some cell of the pass has a non-IDLE record of severity HIGHHIGH (R115). -/
def passAlarmed (alarms : Vector AlarmRecord 640) (p : PassIx) : Bool :=
  (List.finRange 80).any fun k =>
    decide ((alarms.get (cellAt p k)).state ≠ .idle ∧ (alarms.get (cellAt p k)).severity = .highHigh)

/-- Line p driven from the records (R115). -/
def driveAlert (p : PassIx) (s : State) : State :=
  { s with passAlert := put s.passAlert p (passAlarmed s.alarms p) }

/-- The retained entry of a record (R116). -/
def retainedEntry (a : AlarmRecord) : Option RetainedAlarm :=
  if a.state = .idle then none else some { severity := a.severity, peak := a.peak }

/-- A record given its new value. When that changes a field, the four things of R107 take effect with it: the hot list,
the pass's alert line, the retained entry and the notice on the control and trip ports. -/
def changeAlarm (i : CellIx) (a : AlarmRecord) (s : State) : State :=
  if s.alarms.get i = a then s
  else
    notify .trip .alarmChange
      (notify .control .alarmChange
        (retain (fun h => { h with alarms := put h.alarms i (retainedEntry a) })
          (driveAlert (passOf i) (rebuildHotList { s with alarms := put s.alarms i a }))))

/-- A hand-off taken by the alarm unit (R101). -/
def takeHandOff (h : HandOff) (s : State) : State := changeAlarm h.cell (moveRecord h (s.alarms.get h.cell)) s

/-- The record a non-empty retained entry restores (R121). DESIGN CHOICE (log 36): an entry that a disturbance has left
with severity NONE or no peak is restored with them. -/
def restoredRecord (r : RetainedAlarm) : AlarmRecord :=
  { state := .lingering, severity := r.severity, condition := .none, peak := r.peak, raisedSweep := 0#32,
    restored := true }

/-- The records restored from the retained table at a passed hold check (R121). -/
def restoredAlarms (t : Vector (Option RetainedAlarm) 640) : Vector AlarmRecord 640 :=
  t.map fun e => match e with
    | none => AlarmRecord.idleRecord
    | some r => restoredRecord r

/-! ### ACKNOWLEDGE (R108) -/

/-- An existing cell's acknowledgement: tests 4 and 5 of R108, then R109. The response carries the record after it. -/
def acknowledgeCell (i : CellIx) (named : Severity) (s : State) : State × Reply :=
  let a := s.alarms.get i
  match a.state with
  | .idle => (s, { code := .nothingToAck, payload := alarmForm a })
  | .held => (s, { code := .nothingToAck, payload := alarmForm a })
  | .raised | .lingering =>
    if named = a.severity then (changeAlarm i (moveAcknowledged a) s, okWith (alarmForm (moveAcknowledged a)))
    else (s, { code := .ackMismatch, payload := alarmForm a })

/-- The tests of R108 in order. -/
def ownAcknowledge : Owner := fun p payload s =>
  match payload with
  | [hi, lo, sev] =>
    match severityOf? sev with
    | none => (s, codeOnly .range)
    | some .none => (s, codeOnly .range)
    | some named =>
      if named = .highHigh ∧ p ≠ .trip then (s, codeOnly .denied)
      else match existingCell? s.active.config (read16 hi lo) with
        | none => (s, codeOnly .noCell)
        | some i => acknowledgeCell i named s
  | _ => (s, codeOnly .range)

/-! ### GET_HOTLIST (R114) -/

/-- A cell's record in its pass's latest publication, else the unpublished record (R79). -/
def publishedRecord (s : State) (i : CellIx) : CellRecord :=
  match s.published.get (passOf i) with
  | none => CellRecord.unpublished
  | some p => p.records.get (placeOf i)

/-- GET_HOTLIST's payload (R114, R163). -/
def hotListPayload (s : State) : List Byte :=
  be32 s.completed.toNat ++ byte1 s.hotList.length ++ be16 s.unlisted ++
    s.hotList.flatMap fun i => hotListForm i (s.alarms.get i) (publishedRecord s i).estimate

/-- GET_HOTLIST is answered OK and changes nothing (R114). -/
def ownGetHotlist : Owner := reading fun _ _ s => okWith (hotListPayload s)

/-- ACKNOWLEDGE (R108). -/
def execAcknowledge (port : Port) (s : State) : Host.Outcome State Fault Refusal :=
  .next (serve .acknowledge ownAcknowledge port s)

/-- GET_HOTLIST (R114). -/
def execGetHotlist (port : Port) (s : State) : Host.Outcome State Fault Refusal :=
  .next (serve .getHotlist ownGetHotlist port s)

end Sys2Proof.Machine
end

