-- ==== Sys2Proof/Machine/PassService.lean ====
section
/-! DEFINITION. Pass service states (spec 07): requests, the settling at a sweep start, the spall timer. -/
namespace Sys2Proof.Machine

/-! ### SET_PASS_STATE (R125, R126) -/

/-- The reference state: the pending target when there is one, else the state (R125). -/
def referenceState (p : PassService) : PassState := p.target.getD p.state

/-- The allowed targets from a reference state (R125). DESIGN CHOICE (log 24): SPALL is allowed from a pending ONLINE, also
in an OFFLINE pass, by the tests as they stand, though R125 calls that pass one that reaches SPALL across two starts. -/
def targetAllowed : PassState → PassState → Bool
  | .online, .online => false
  | .online, .spall => true
  | .online, .offline => true
  | .spall, .online => true
  | .spall, .spall => false
  | .spall, .offline => true
  | .offline, .online => true
  | .offline, .spall => false
  | .offline, .offline => false

/-- The spall count: passes other than `p` whose state or pending target is SPALL (R126). An unused
pass counts where a disturbed hold domain has left it in SPALL (DESIGN CHOICE, log 40). -/
def spallCount (passes : Vector PassService 8) (p : PassIx) : Nat :=
  ((List.finRange 8).filter fun q =>
    decide (q ≠ p ∧ ((passes.get q).state = .spall ∨ (passes.get q).target = some .spall))).length

/-- State and pending target as the response carries them (R125, R163). -/
def passStateBytes (p : PassService) : List Byte :=
  byte1 (passStateCode p.state) ++ optCodeByte (p.target.map passStateCode)

/-- A pass's retained entry (R132). -/
def retainedPass (p : PassService) : RetainedPass := { state := p.state, target := p.target }

/-- A pass record given its new value; a change of state or pending target is written to the hold domain (R132). -/
def setPass (p : PassIx) (x : PassService) (s : State) : State :=
  let s' := { s with passes := put s.passes p x }
  if retainedPass x = retainedPass (s.passes.get p) then s'
  else retain (fun h => { h with passes := put h.passes p (retainedPass x) }) s'

/-- An accepted target (R125): it becomes the pending target, and the pass's entry is written (R132). -/
def acceptTarget (p : PassIx) (target : PassState) (s : State) : State :=
  setPass p { s.passes.get p with target := some target } s

/-- A request on a used pass: tests 3 and 4 of R125. An OFFLINE pass whose pending target is ONLINE is judged as ONLINE, so
that SPALL is accepted (DESIGN CHOICE, log 24). Test 4 holds for every SPALL request, also for one that restores the SPALL
of a pass after an application has lowered the limit (DESIGN CHOICE, log 39). -/
def requestTarget (p : PassIx) (target : PassState) (s : State) : State × Reply :=
  let x := s.passes.get p
  if !targetAllowed (referenceState x) target then (s, { code := .badTransition, payload := passStateBytes x })
  else if target = .spall ∧ s.active.config.globals.maxSpall ≤ spallCount s.passes p then
    (s, { code := .spallLimit, payload := passStateBytes x })
  else (acceptTarget p target s, okWith (passStateBytes { x with target := some target }))

/-- The tests of R125 in order. -/
def ownSetPassState : Owner := fun _ payload s =>
  match payload with
  | [n, t] =>
    match passIx? n.toNat, passStateOf? t with
    | some p, some target =>
      if passUsed s.active.config p then requestTarget p target s else (s, codeOnly .noCell)
    | _, _ => (s, codeOnly .range)
  | _ => (s, codeOnly .range)

/-! ### Settling (R128, R129) -/

/-- The record of a pass that enters a state: its spall timer and overdue flag (R129; from OFFLINE into SPALL, log 24). -/
def enteredPass (target : PassState) : PassService :=
  match target with
  | .spall => { state := .spall, target := none, spallTimer := some 0, overdueNotified := false }
  | .online | .offline => { state := target, target := none, spallTimer := none, overdueNotified := false }

/-- What an entry does to the working values of a cell of the pass (R129). DESIGN CHOICE (log 24): OFFLINE to SPALL, for
which R129 has no row, does what OFFLINE to ONLINE and then ONLINE to SPALL do, so that no value from before the pass
went out of service is shown as HELD or gives a rate. -/
def enterWorking (before after : PassState) (w : Working) : Working :=
  match before, after with
  | .online, .spall => { w with rateRef := none, rate := none }
  | .spall, .online => { w with rateRef := none, rate := none }
  | .offline, .online => { w with lastEstimate := none, staleCounter := 0 }
  | .offline, .spall => { w with lastEstimate := none, staleCounter := 0, rateRef := none, rate := none }
  | _, _ => w

/-- Changing the working values of every existing cell of a pass. -/
def mapPassWorking (f : Working → Working) (p : PassIx) (s : State) : State :=
  { s with working := Vector.ofFn fun i =>
      if passOf i = p ∧ cellExists s.active.config i then f (s.working.get i) else s.working.get i }

/-- The settling of one pass (R128). -/
def settlePass (s : State) (p : PassIx) : State :=
  let x := s.passes.get p
  if passUsed s.active.config p then
    match x.target with
    | none => s
    | some target =>
      if target = x.state then setPass p { x with target := none } s
      else mapPassWorking (enterWorking x.state target) p (setPass p (enteredPass target) s)
  else setPass p PassService.online s

/-- The settling of every pass, 0 to 7 (R128). -/
def settleAll (s : State) : State := (List.finRange 8).foldl settlePass s

/-! ### The spall timer (R130) -/

/-- The spall overdue of the active configuration, in ms (R130). -/
def overdueMs (c : Configuration) : Nat := c.globals.spallOverdue * 60000

/-- The comparison of a pass's spall timer with the spall overdue: the notice once per stay (R130). -/
def compareOverdue (s : State) (p : PassIx) : State :=
  let x := s.passes.get p
  match x.spallTimer with
  | none => s
  | some t =>
    if x.state = .spall ∧ overdueMs s.active.config ≤ t ∧ x.overdueNotified = false then
      notify .control .spallOverdue { s with passes := put s.passes p { x with overdueNotified := true } }
    else s

/-- The spall timer of a pass reaches the spall overdue (R130). -/
def spallOverdueEvent (p : PassIx) (s : State) : State := if s.running then compareOverdue s p else s

/-- An application's change of the spall overdue is taken up at once (R130, R148). -/
def takeUpOverdue (before after : Configuration) (s : State) : State :=
  if before.globals.spallOverdue = after.globals.spallOverdue then s else (List.finRange 8).foldl compareOverdue s

/-! ### GET_PASSINFO (R131) -/

/-- The high limit in force (R83, R102, R131). -/
def highInForce (r : PassRecord) (st : PassState) : Nat := if st = .spall then r.spallHigh else r.high

/-- The highhigh limit in force (R83, R102, R131). -/
def highHighInForce (r : PassRecord) (st : PassState) : Nat := if st = .spall then r.spallHighHigh else r.highHigh

/-- The whole minutes of the spall timer; 0 outside SPALL (R131). -/
def spallMinutes (x : PassService) : Nat :=
  match x.state, x.spallTimer with
  | .spall, some t => t / 60000
  | _, _ => 0

/-- The sweep number of a pass's latest publication, 0 when it has none (R85, R131). -/
def publicationSweep (s : State) (p : PassIx) : Nat :=
  match s.published.get p with
  | none => 0
  | some x => x.sweep.toNat

/-- GET_PASSINFO's payload (R131, R163). -/
def passInfoPayload (p : PassIx) (s : State) : List Byte :=
  let x := s.passes.get p
  let r := s.active.config.passes.get p
  byte1 p.1 ++ passStateBytes x ++ be16 (highInForce r x.state) ++ be16 (highHighInForce r x.state) ++
    be16 r.deadband ++ be16 r.rateLimit ++ [flagByte (decide (x.state = .online))] ++ be16 (spallMinutes x) ++
    [flagByte x.overdueNotified] ++ be32 (publicationSweep s p)

/-- GET_PASSINFO (R131): above 7 RANGE, an unused pass NO_CELL. -/
def ownGetPassinfo : Owner := reading fun _ payload s =>
  match passIx? (payload8 payload) with
  | none => codeOnly .range
  | some p => if passUsed s.active.config p then okWith (passInfoPayload p s) else codeOnly .noCell

/-- SET_PASS_STATE (R125). -/
def execSetPassState (port : Port) (s : State) : Host.Outcome State Fault Refusal :=
  .next (serve .setPassState ownSetPassState port s)

/-- GET_PASSINFO (R131). -/
def execGetPassinfo (port : Port) (s : State) : Host.Outcome State Fault Refusal :=
  .next (serve .getPassinfo ownGetPassinfo port s)

/-- SPALL_OVERDUE (R130). -/
def execSpallOverdue (pass : PassIx) (elapsed : Nat) (s : State) : Host.Outcome State Fault Refusal :=
  .next (spallOverdueEvent pass (elapse elapsed s))

end Sys2Proof.Machine
end

