-- ==== Sys2Proof/Machine/Map.lean ====
section
/-! DEFINITION. Cell estimation (spec 04): the evidence, the case table, the rate, the hand-off, the publication, and the
requests that read the map. -/
namespace Sys2Proof.Machine

/-! ### Evidence (R70 to R72) -/

/-- A contributor: its value and its quality (R70). -/
structure Contributor where
  value : Int
  quality : Quality
deriving DecidableEq, Repr

/-- The contributor a source item gives, none when its line does not contribute (R70). DESIGN CHOICE (log
15): an item that names no line, and an OK record without a temperature, as a reference line has, give none. -/
def contributorOf (g : GlobalRecord) (now : Word) (readings : Vector Reading 128) (i : SourceItem) :
    Option Contributor :=
  match lineIx? i.line with
  | none => none
  | some l =>
    let r := readings.get l
    match r.status, r.temperature, r.quality with
    | .ok, some t, some q =>
      if age now r.stamp ≤ g.staleLimit * 1000 then some { value := clampTemp (t + i.trim), quality := q } else none
    | _, _, _ => none

/-- The largest of a value and those after it. -/
def largest (x : Int) (xs : List Contributor) : Int := xs.foldl (fun m c => if m < c.value then c.value else m) x

/-- The smallest of a value and those after it. -/
def smallest (x : Int) (xs : List Contributor) : Int := xs.foldl (fun m c => if c.value < m then c.value else m) x

/-- The mean of the contributor values, rounded once (R75). -/
def meanValue (xs : List Contributor) : Int := roundDiv (xs.map (·.value)).sum xs.length

/-- The largest contributor value less the smallest (R70). -/
def spread : List Contributor → Int
  | [] => 0
  | x :: xs => largest x.value xs - smallest x.value xs

/-- The largest contributor value. -/
def largestValue : List Contributor → Int
  | [] => 0
  | x :: xs => largest x.value xs

/-- The contributors agree: their spread is at most the disagreement limit (R73). -/
def agreeing (g : GlobalRecord) (xs : List Contributor) : Bool := decide (spread xs ≤ g.disagreement)

/-- The head value (R72). -/
def headValue (g : GlobalRecord) (xs : List Contributor) : Int :=
  if agreeing g xs then meanValue xs else largestValue xs

/-- The temperature of a cell's qualifying scan sample (R71). -/
def qualifyingSample (g : GlobalRecord) (now : Word) (e : Option ScanEntry) : Option Int :=
  match e with
  | none => none
  | some x => if age now x.stamp ≤ g.scanValidAge * 1000 then some x.temperature else none

/-- The sample when it exceeds the heads by more than the scan margin (R72). -/
def overridingSample (g : GlobalRecord) (xs : List Contributor) (sample : Option Int) : Option Int :=
  match sample with
  | none => none
  | some t => if (g.scanMargin : Int) < t - headValue g xs then some t else none

/-! ### The case table and the fallback (R73, R76 to R78) -/

/-- What one computation of a cell gives before its rate: the record's fields and the working values. -/
structure Outcome where
  estimate : Option Int
  quality : Quality
  source : CellSource
  contributors : Nat
  scanPresent : Bool
  lastEstimate : Option Int
  staleCounter : Nat
  ageCounter : Nat
deriving DecidableEq, Repr

/-- The age counter raised by one, held at 255 (R78). -/
def olderAge (w : Working) : Nat := if w.ageCounter < 255 then w.ageCounter + 1 else 255

/-- An outcome without an estimate (R68, R69, R76 step 3). -/
def absentOutcome (q : Quality) (present : Bool) (last : Option Int) (w : Working) : Outcome :=
  { estimate := none, quality := q, source := .none, contributors := 0, scanPresent := present, lastEstimate := last,
    staleCounter := 0, ageCounter := olderAge w }

/-- An outcome with a new estimate: cases a. to e. and the neighbour (R73, R76, R77). -/
def estimateOutcome (e : Int) (q : Quality) (src : CellSource) (n : Nat) (present : Bool) (ageCounter : Nat) :
    Outcome :=
  { estimate := some e, quality := q, source := src, contributors := n, scanPresent := present,
    lastEstimate := some e, staleCounter := 0, ageCounter := ageCounter }

/-- Cases a. to d.: one contributor or more (R73). -/
def headCase (g : GlobalRecord) (xs : List Contributor) (sample : Option Int) : Outcome :=
  match overridingSample g xs sample with
  | some t => estimateOutcome t .uncertain .scanOverride xs.length true 0
  | none =>
    if agreeing g xs then
      estimateOutcome (meanValue xs) (if xs.all fun c => decide (c.quality = .good) then .good else .degraded) .heads
        xs.length sample.isSome 0
    else estimateOutcome (largestValue xs) .uncertain .headsSplit xs.length sample.isSome 0

/-- The estimate a published record lends (R76 step 1). -/
def lentEstimate (r : CellRecord) : Option Int :=
  match r.source with
  | .heads => match r.quality with
    | .good => r.estimate
    | .degraded => r.estimate
    | .uncertain | .stale | .noData | .checkFail | .offline => none
  | .headsSplit | .scan | .scanOverride | .neighbor | .held | .none => none

/-- The estimate the cell's neighbour gives: lent estimate plus offset, clamped (R76 step 1). -/
def neighbourEstimate (s : State) (fb : Option Fallback) : Option Int :=
  match fb with
  | none => none
  | some f =>
    match cellIx? f.cell with
    | none => none
    | some j => (lentEstimate (publishedRecord s j)).map fun e => clampTemp (e + f.offset)

/-- Case f.: neighbour, held, no data, the first that applies (R76). -/
def fallbackCase (g : GlobalRecord) (neighbour : Option Int) (w : Working) : Outcome :=
  match neighbour with
  | some e => estimateOutcome e .uncertain .neighbor 0 false (olderAge w)
  | none =>
    match w.lastEstimate with
    | some e =>
      if w.staleCounter < g.staleHold then
        { estimate := some e, quality := .stale, source := .held, contributors := 0, scanPresent := false,
          lastEstimate := some e, staleCounter := w.staleCounter + 1, ageCounter := olderAge w }
      else absentOutcome .noData false none w
    | none => absentOutcome .noData false none w

/-- The case table (R73). -/
def caseTable (g : GlobalRecord) (xs : List Contributor) (sample neighbour : Option Int) (w : Working) : Outcome :=
  match xs, sample with
  | [], some t => estimateOutcome t .uncertain .scan 0 true (olderAge w)
  | [], none => fallbackCase g neighbour w
  | x :: rest, _ => headCase g (x :: rest) sample

/-- The stored check code agrees with the entry as it now stands (R69). -/
def entryIntact (a : ActiveConfig) (i : CellIx) : Bool :=
  decide (checkCode i.1 (a.config.cells.get i) = a.codes.get i)

/-- The outcome of a cell's computation (R68, R69, R73). -/
def cellOutcome (s : State) (i : CellIx) : Outcome :=
  let w := s.working.get i
  let g := s.active.config.globals
  let e := s.active.config.cells.get i
  if (s.passes.get (passOf i)).state = .offline then absentOutcome .offline false w.lastEstimate w
  else if !entryIntact s.active i then absentOutcome .checkFail false none w
  else
    caseTable g (e.sources.filterMap (contributorOf g s.timebase.partTime s.readings))
      (qualifyingSample g s.timebase.partTime (s.scanTable.get i)) (neighbourEstimate s e.fallback) w

/-- A cell whose first mismatch is found by this computation (R69). -/
def freshMismatch (s : State) (i : CellIx) : Bool :=
  decide ((s.passes.get (passOf i)).state ≠ .offline) && !entryIntact s.active i &&
    !(s.working.get i).mismatchReported

/-! ### Rate (R80) -/

/-- The rate from a reference to a new estimate, rounded and clamped (R80). -/
def measuredRate (g : GlobalRecord) (before after : Int) : Int :=
  clamp (-32767) 32767 (roundDiv ((after - before) * 60000) (g.rateWindow * g.sweepPeriod))

/-- The rate reference and the rate after a computation in sweep `k` (R80). -/
def updateRate (g : GlobalRecord) (k : Word) (q : Quality) (estimate : Option Int) (w : Working) :
    Option RateReference × Option Int :=
  match knownQuality q, estimate with
  | true, some e =>
    match w.rateRef with
    | none => (some { estimate := e, sweep := k }, none)
    | some r =>
      if (k - r.sweep).toNat < g.rateWindow then (some r, w.rate)
      else (some { estimate := e, sweep := k }, some (measuredRate g r.estimate e))
  | _, _ => (none, none)

/-! ### The computation of one cell (R64, R65, R83) -/

/-- The published record an outcome and its rate give (R79). -/
def recordOf (o : Outcome) (rate : Option Int) : CellRecord :=
  { estimate := o.estimate, quality := o.quality, source := o.source, contributors := o.contributors, rate := rate,
    age := o.ageCounter, scanPresent := o.scanPresent }

/-- The working values after a computation (R69, R77, R78, R80). -/
def workingAfter (o : Outcome) (rate : Option RateReference × Option Int) (mismatch : Bool) (w : Working) : Working :=
  { lastEstimate := o.lastEstimate, staleCounter := o.staleCounter, ageCounter := o.ageCounter, rateRef := rate.1,
    rate := rate.2, mismatchReported := w.mismatchReported || mismatch }

/-- The hand-off of a computed cell (R83). -/
def handOffOf (s : State) (k : Word) (i : CellIx) (o : Outcome) (rate : Option Int) : HandOff :=
  let r := s.active.config.passes.get (passOf i)
  let st := (s.passes.get (passOf i)).state
  { cell := i, sweep := k, estimate := o.estimate, quality := o.quality, rate := rate, passState := st,
    high := highInForce r st, highHigh := highHighInForce r st, deadband := r.deadband, rateLimit := r.rateLimit }

/-- The CHECK_MISMATCH fault of a first mismatch (R69). -/
def reportMismatch (found : Bool) (i : CellIx) (s : State) : State :=
  if found then handFault .sweep .checkMismatch (.cell i) s else s

/-- A cell computed in the sweep of number `k`: its working values, its fault, its hand-off (R64). -/
def computeCell (k : Word) (i : CellIx) (s : State) : State :=
  let w := s.working.get i
  let o := cellOutcome s i
  let rate := updateRate s.active.config.globals k o.quality o.estimate w
  takeHandOff (handOffOf s k i o rate.2)
    (reportMismatch (freshMismatch s i) i
      { s with working := put s.working i (workingAfter o rate (freshMismatch s i) w) })

/-- The record of a cell computed in the sweep of number `k` (R79). -/
def computedRecord (k : Word) (i : CellIx) (s : State) : CellRecord :=
  let o := cellOutcome s i
  recordOf o (updateRate s.active.config.globals k o.quality o.estimate (s.working.get i)).2

/-- The working copy of a pass before its first cell. -/
def blankCopy : Vector CellRecord 80 := Vector.replicate 80 CellRecord.unpublished

/-- The publication of a pass from its working copy, with its tags (R65). -/
def publicationOf (s : State) (number : Word) (p : PassIx) (copy : Vector CellRecord 80) : Publication :=
  let r := s.active.config.passes.get p
  { sweep := number, generation := s.active.generation, tubeCount := r.tubeCount, levelCount := r.levelCount,
    records := copy }

/-- What follows a cell's hand-off (R64, R65): the next cell of the pass, or the publication of the pass and the next
pass, or the completion of the sweep. -/
def advanceSweep (number : Word) (i : CellIx) (rest : List CellIx) (copy : Vector CellRecord 80) (s : State) :
    State :=
  match rest with
  | [] =>
    { s with published := put s.published (passOf i) (some (publicationOf s number (passOf i) copy)),
             completed := s.completed + 1#32, sweep := none }
  | j :: _ =>
    if passOf j = passOf i then { s with sweep := some { number := number, todo := rest, working := copy } }
    else
      { s with published := put s.published (passOf i) (some (publicationOf s number (passOf i) copy)),
               sweep := some { number := number, todo := rest, working := blankCopy } }

/-- One cell computation of the sweep in flight (R64). -/
def cellComputationEvent (s : State) : State :=
  match s.sweep with
  | none => s
  | some run =>
    match run.todo with
    | [] => s
    | i :: rest =>
      advanceSweep run.number i rest (put run.working (placeOf i) (computedRecord run.number i s))
        (computeCell run.number i s)

/-! ### Reading the map (R85, R86) -/

/-- The generation tag of a pass's latest publication, the active generation when it has none (R85). -/
def publicationGeneration (s : State) (p : PassIx) : Half :=
  match s.published.get p with
  | none => s.active.generation
  | some x => x.generation

/-- GET_CELL's payload (R85, R163). -/
def cellPayload (i : CellIx) (s : State) : List Byte :=
  be16 i.1 ++ be32 (publicationSweep s (passOf i)) ++ be16 (publicationGeneration s (passOf i)).toNat ++
    cellRecordForm (publishedRecord s i) (s.alarms.get i) ++ alarmForm (s.alarms.get i)

/-- GET_CELL (R85): a cell that does not exist is answered NO_CELL. -/
def ownGetCell : Owner := reading fun _ payload s =>
  match existingCell? s.active.config (payload16 payload) with
  | none => codeOnly .noCell
  | some i => okWith (cellPayload i s)

/-- The places of a pass's block whose cells exist under a tube count and a level count, ascending (R2). -/
def existingPlaces (tubes levels : Nat) : List (Fin 80) := (List.finRange 80).filter (placeExists tubes levels)

/-- The publication GET_PASS reports: the latest, or the unpublished records of the existing cells (R86). -/
def reportedPublication (s : State) (p : PassIx) : Publication :=
  match s.published.get p with
  | some x => x
  | none => publicationOf s 0#32 p blankCopy

/-- GET_PASS's payload (R86, R163). -/
def passPayload (p : PassIx) (s : State) : List Byte :=
  let x := reportedPublication s p
  be32 x.sweep.toNat ++ be16 x.generation.toNat ++ byte1 p.1 ++ byte1 x.tubeCount ++ byte1 x.levelCount ++
    (existingPlaces x.tubeCount x.levelCount).flatMap fun k =>
      cellRecordForm (x.records.get k) (s.alarms.get (cellAt p k))

/-- GET_PASS (R86): above 7 RANGE, an unused pass NO_CELL. -/
def ownGetPass : Owner := reading fun _ payload s =>
  match passIx? (payload8 payload) with
  | none => codeOnly .range
  | some p => if passUsed s.active.config p then okWith (passPayload p s) else codeOnly .noCell

/-- CELL_COMPUTATION (R64). -/
def execCellComputation (s : State) : Host.Outcome State Fault Refusal := .next (cellComputationEvent s)

/-- GET_CELL (R85). -/
def execGetCell (port : Port) (s : State) : Host.Outcome State Fault Refusal := .next (serve .getCell ownGetCell port s)

/-- GET_PASS (R86). -/
def execGetPass (port : Port) (s : State) : Host.Outcome State Fault Refusal := .next (serve .getPass ownGetPass port s)

end Sys2Proof.Machine
end

