-- ==== Sys2Proof/Machine/Application.lean ====
section
/-! DEFINITION. The sweep boundary and the sweep start (R62, R63): the application of a pending commit (R145 to R148), the
settling, and the beginning of pass processing. -/
namespace Sys2Proof.Machine

/-! ### What the sweep unit does at an application (R87) -/

/-- The working values of a cell after an application (R87). -/
def workingAtApplication (before after : Configuration) (i : CellIx) (w : Working) : Working :=
  match cellExists before i, cellExists after i with
  | false, false => { w with mismatchReported := false }
  | true, false => Working.restart
  | false, true => Working.restart
  | true, true =>
    if before.cells.get i = after.cells.get i then { w with mismatchReported := false }
    else
      { lastEstimate := none, staleCounter := 0, ageCounter := w.ageCounter, rateRef := none, rate := none,
        mismatchReported := false }

/-- The publication of a pass after an application: discarded where the pass becomes unused (R87). -/
def publicationAtApplication (before after : Configuration) (p : PassIx) (x : Option Publication) :
    Option Publication :=
  if passUsed before p && !passUsed after p then none else x

/-- The sweep unit takes up a new configuration (R87). -/
def takeUpMap (before after : Configuration) (s : State) : State :=
  { s with
    working := Vector.ofFn fun i => workingAtApplication before after i (s.working.get i)
    published := Vector.ofFn fun p => publicationAtApplication before after p (s.published.get p) }

/-! ### The application (R145 to R148) -/

/-- The pending copy as the active configuration, with fresh codes, the next generation and source COMMIT (R147). -/
def committed (a : ActiveConfig) (staged : Configuration) : ActiveConfig :=
  { config := staged, codes := checkCodes staged, generation := a.generation + 1#16, source := .commit }

/-- The retained configuration replaced by an active one, with generation and source (R147, R174). -/
def retainConfig (a : ActiveConfig) (h : HoldContents) : HoldContents :=
  { h with config := a.config, codes := a.codes, generation := a.generation, source := a.source }

/-- The configuration unit's own part of an application (R147). -/
def makeActive (staged : Configuration) (s : State) : State :=
  notifyAll .configApplied
    (retain (retainConfig (committed s.active staged)) { s with active := committed s.active staged, edit := none })

/-- The capture groups take the application (R40, R41). -/
def takeUpGroups (after : Configuration) (s : State) : State :=
  { s with groups := Vector.ofFn fun g => applyToGroup after g (s.groups.get g) }

/-- The application of a pending copy (R147) and what each block does at it (R148). -/
def applyCommit (staged : Configuration) (s : State) : State :=
  let before := s.active.config
  takeUpOverdue before staged
    (takeUpMap before staged
      (clearVanished before staged
        (takeUpGroups staged
          (takeUpEnable before.globals.multiplierEnable staged.globals.multiplierEnable (makeActive staged s)))))

/-- The drop of a pending commit (R146). -/
def dropCommit (e : EditClaim) (s : State) : State := notify e.holder .commitDropped (s.setEdit none)

/-- The first stage of a sweep start: a pending commit is deferred while a store is in flight, else dropped or applied
(R145, R146). -/
def considerCommit (s : State) : State :=
  match s.edit with
  | none => s
  | some e =>
    if e.commitPending = false ∨ s.store.isSome then s
    else match alarmedVanishing s.alarms s.active.config e.staged with
      | some _ => dropCommit e s
      | none => applyCommit e.staged s

/-! ### The boundary (R62 to R65) -/

/-- The next boundary: the one just reached plus the sweep period of the active configuration (R62). -/
def nextInterval (s : State) : State :=
  { s with nextBoundary := s.nextBoundary + BitVec.ofNat 32 s.active.config.globals.sweepPeriod }

/-- Pass processing begins (R64): the existing cells in order; with none the sweep completes at once (R65). -/
def beginProcessing (s : State) : State :=
  match existingCells s.active.config with
  | [] => { s with completed := s.completed + 1#32 }
  | i :: rest => { s with sweep := some { number := s.completed + 1#32, todo := i :: rest, working := blankCopy } }

/-- The sweep start: application, then settling (R63). -/
def sweepStart (s : State) : State := settleAll (considerCommit s)

/-- A sweep boundary (R62): a sweep starts unless one is in flight; either way the next boundary is set. -/
def sweepBoundaryEvent (s : State) : State :=
  if s.running ∧ reached s.timebase.partTime s.nextBoundary then
    match s.sweep with
    | some _ => nextInterval s
    | none => beginProcessing (nextInterval (sweepStart s))
  else s

/-- SWEEP_BOUNDARY (R62). -/
def execSweepBoundary (elapsed : Nat) (s : State) : Host.Outcome State Fault Refusal :=
  .next (sweepBoundaryEvent (elapse elapsed s))

end Sys2Proof.Machine
end

