-- ==== Sys2Proof/Machine/Image.lean ====
section
/-! DEFINITION. The image interface (R175 to R178): the image's bytes, the store and its states, and what an image load
reads. -/
namespace Sys2Proof.Machine

/-! ### The image (R175) -/

/-- The marker (R175). -/
def imageMarker : List Byte := [0x54#8, 0x56#8, 0x32#8, 0x36#8]

/-- The format number (R175). -/
def imageFormat : List Byte := [0#8, 1#8]

/-- The header (R175): marker, format number, body length, generation. -/
def imageHeader (length : Nat) (generation : Half) : List Byte :=
  imageMarker ++ imageFormat ++ be16 length ++ be16 generation.toNat

/-- The image of a configuration and generation: header, body, CRC-32 over both (R175). -/
def imageBytes (c : Configuration) (generation : Half) : List Byte :=
  let body := bodyForm c
  let covered := imageHeader body.length generation ++ body
  covered ++ be32 (crc32 covered).toNat

/-! ### The store (R177, R178) -/

/-- The flash answers: its identification is a part's (R176, log 12). -/
def flashPresent (f : Flash) : Bool := decide (f.ident = .part)

/-- The erasure of the whole region (R177, log 13); an absent flash holds nothing to erase. -/
def eraseFlash (f : Flash) : Flash := if flashPresent f then { f with region := [] } else f

/-- Bytes written at an offset; an absent flash takes none. -/
def programFlash (a : Nat) (bytes : List Byte) (f : Flash) : Flash :=
  if flashPresent f then { f with region := writeBytes f.region a bytes } else f

/-- Bytes the flash holds otherwise than they were written (log 12). -/
def misreadFlash (misread : List (Nat × Byte)) (f : Flash) : Flash :=
  if flashPresent f then { f with region := writeCells f.region misread } else f

/-- The bytes a store writes before its marker, from offset 4 on (R177). -/
def storedBytes (x : StoreOp) : List Byte := (imageBytes x.config x.generation).drop 4

/-- STORE_IMAGE (R177): NO_FLASH before STORE_BUSY (log 16), else a store begins from the active configuration. -/
def ownStoreImage : Owner := fun p _ s =>
  if s.strap then (s, codeOnly .noFlash)
  else if s.store.isSome ∨ s.restartPending.isSome then (s, codeOnly .storeBusy)
  else
    ({ s with store := some { port := p, stage := .erase, config := s.active.config,
                              generation := s.active.generation },
              flash := eraseFlash s.flash }, codeOnly .ok)

/-- The end of ERASE: WRITE begins (R177). -/
def eraseEndEvent (s : State) : State :=
  match s.store with
  | none => s
  | some x =>
    match x.stage with
    | .erase => { s with store := some { x with stage := .write } }
    | .write => s
    | .verify => s

/-- The end of WRITE: the body, the CRC and the header but its marker stand in the flash, and VERIFY begins (R177).
DESIGN CHOICE (log 41): nothing is programmed before this event, so a store abandoned during WRITE leaves the region
erased. -/
def writeEndEvent (misread : List (Nat × Byte)) (s : State) : State :=
  match s.store with
  | none => s
  | some x =>
    match x.stage with
    | .write =>
      { s with store := some { x with stage := .verify },
               flash := misreadFlash misread (programFlash 4 (storedBytes x) s.flash) }
    | .erase => s
    | .verify => s

/-- The region reads back as written (R177); an absent flash never does (R178). -/
def verifies (x : StoreOp) (f : Flash) : Bool :=
  flashPresent f && decide (readBytes f.region 4 (storedBytes x).length = storedBytes x)

/-- The store's completion, or its failure at VERIFY (R177). -/
def storeCompletionEvent (s : State) : State :=
  match s.store with
  | none => s
  | some x =>
    match x.stage with
    | .verify =>
      if verifies x s.flash then
        notify x.port .storeDone { s with store := none, flash := programFlash 0 imageMarker s.flash }
      else notify x.port .storeFailed (handFault .store .storeVerify .none { s with store := none })
    | .erase => s
    | .write => s

/-! ### Reading the image (R176) -/

/-- The outcomes of an image load (R176). -/
inductive LoadOutcome where
  | noFlash | absent | check | invalid
  | good (config : Configuration) (generation : Half)
deriving DecidableEq, Repr

/-- The body with its cell entry forms read: the line records' bytes, the entries, the bytes after them. -/
structure ParsedBody where
  lines : List Byte
  entries : List CellEntry
  tail : List Byte
deriving DecidableEq, Repr

/-- Reading `n` cell entry forms from a position on, each of whose index is its position (R176). -/
def takeForms : Nat → Nat → List Byte → Option (List CellEntry × List Byte)
  | 0, _, bs => some ([], bs)
  | n + 1, position, bs =>
    match takeCellForm bs with
    | none => none
    | some (i, e, rest) =>
      if i = position then
        match takeForms n (position + 1) rest with
        | some (es, rest') => some (e :: es, rest')
        | none => none
      else none

/-- The bytes of the 128 line records (R162, R175). -/
def lineBytes : Nat := 640

/-- The bytes of the 8 pass records and the global record (R162, R175). -/
def tailBytes : Nat := 155

/-- The body form by form; none where the forms do not fill it exactly, or carry a bad marker or index (R176). -/
def parseBody (body : List Byte) : Option ParsedBody :=
  match takeForms 640 0 (body.drop lineBytes) with
  | none => none
  | some (entries, tail) =>
    if tail.length = tailBytes then some { lines := body.take lineBytes, entries := entries, tail := tail } else none

/-- Reading `n` records of one size. -/
def readRecords {α : Type} (size : Nat) (read : List Byte → Option α) : Nat → List Byte → Option (List α)
  | 0, _ => some []
  | n + 1, bs =>
    match read (bs.take size), readRecords size read n (bs.drop size) with
    | some x, some xs => some (x :: xs)
    | _, _ => none

/-- The configuration of a body; none where a field lies outside its enumeration, which is a failed range test (log
21). -/
def decodeBody (b : ParsedBody) : Option Configuration :=
  match (readRecords 5 readLine 128 b.lines).bind (toVector? 128), toVector? 640 b.entries,
    (readRecords 14 readPass 8 b.tail).bind (toVector? 8), readGlobal (b.tail.drop 112) with
  | some lines, some cells, some passes, some globals =>
    some { lines := lines, cells := cells, passes := passes, globals := globals }
  | _, _, _, _ => none

/-- The body length of an image, from its header (R175). -/
def imageLength (m : Memory) : Nat := read16 (readByte m 6) (readByte m 7)

/-- The generation of an image, from its header (R175). -/
def imageGeneration (m : Memory) : Half := BitVec.ofNat 16 (read16 (readByte m 8) (readByte m 9))

/-- Marker, format number, length and CRC are as R175 gives them (R176, outcome 3). -/
def headerGood (m : Memory) : Bool :=
  decide (readBytes m 0 4 = imageMarker ∧ readBytes m 4 2 = imageFormat ∧
    3355 ≤ imageLength m ∧ imageLength m ≤ 11675 ∧
    be32 (crc32 (readBytes m 0 (10 + imageLength m))).toNat = readBytes m (10 + imageLength m) 4)

/-- Outcomes 4 and 5 of R176: the configuration's checks. -/
def judgeBody (m : Memory) (b : ParsedBody) : LoadOutcome :=
  match decodeBody b with
  | none => .invalid
  | some c =>
    match checkConfiguration c with
    | some _ => .invalid
    | none => .good c (imageGeneration m)

/-- What the region holds (R176, outcomes 3 to 5). -/
def readImage (m : Memory) : LoadOutcome :=
  if headerGood m then
    match parseBody (readBytes m 10 (imageLength m)) with
    | none => .check
    | some b => judgeBody m b
  else .check

/-- The outcome of an image load, the first of R176 that applies. -/
def loadOutcome (strap : Bool) (f : Flash) : LoadOutcome :=
  if strap then .noFlash else if flashPresent f then readImage f.region else .absent

/-- The fault an outcome hands to STORE (R176). -/
def loadFault : LoadOutcome → Option FaultKind
  | .noFlash => none
  | .absent => some .flashAbsent
  | .check => some .loadCheck
  | .invalid => some .loadInvalid
  | .good _ _ => none

/-- The active configuration an outcome leaves, with its codes (R9, R19, R176). -/
def loadedConfig : LoadOutcome → ActiveConfig
  | .good c n => { config := c, codes := checkCodes c, generation := n, source := .image }
  | .noFlash | .absent | .check | .invalid =>
    { config := emptyConfiguration, codes := checkCodes emptyConfiguration, generation := 0#16, source := .empty }

/-- STORE_IMAGE (R177). -/
def execStoreImage (port : Port) (s : State) : Host.Outcome State Fault Refusal :=
  .next (serve .storeImage ownStoreImage port s)

/-- ERASE_END (R177). -/
def execEraseEnd (s : State) : Host.Outcome State Fault Refusal := .next (eraseEndEvent s)

/-- WRITE_END (R177). -/
def execWriteEnd (misread : List (Nat × Byte)) (s : State) : Host.Outcome State Fault Refusal :=
  .next (writeEndEvent misread s)

/-- STORE_COMPLETION (R177). -/
def execStoreCompletion (s : State) : Host.Outcome State Fault Refusal := .next (storeCompletionEvent s)

end Sys2Proof.Machine
end

