-- ==== Sys2Proof/Machine/Ports.lean ====
section
/-! DEFINITION. Transactions and the request slot (R151 to R155), notices read by a master (R158), and the fault bank's
requests (R168, R169). The poll stands with the restart it may begin (Restart.lean). -/
namespace Sys2Proof.Machine

/-- The `n` whole bytes a transaction clocks out of a frame; beyond its end 0x00 (R151, R156). -/
def shiftOut (n : Nat) (frame : List Byte) : List Byte := (frame ++ List.replicate n 0#8).take n

/-- What a transaction shifts out stands on the port's data out (log 5). -/
def driveOut (p : Port) (bytes : List Byte) (s : State) : State := { s with dataOut := s.dataOut.set p bytes }

/-- A bad frame: FRAME_ERROR is set and FRAME_CHECK handed; the slot is untouched (R153). -/
def badFrame (p : Port) (s : State) : State :=
  handFault (.port p) .frameCheck .none (s.setPort p { s.ports.get p with frameError := true })

/-- A good frame at the slot (R154): taken when EMPTY or ANSWERED, an overrun when PROCESSING. -/
def goodFrame (p : Port) (req : Request) (s : State) : State :=
  match (s.ports.get p).slot with
  | .processing _ => handFault (.port p) .overrun .none (s.setPort p { s.ports.get p with overrun := true })
  | .empty => s.setPort p { s.ports.get p with slot := .processing req, overrun := false, frameError := false }
  | .answered _ _ => s.setPort p { s.ports.get p with slot := .processing req, overrun := false, frameError := false }

/-- A request transaction at the deassertion of chip select (R151, R152): the status byte went out first, then 0x00. -/
def takeTransaction (p : Port) (bytes : List Byte) (trailingBits : Bool) (s : State) : State :=
  let s' := driveOut p (shiftOut bytes.length [statusByte (s.ports.get p)]) s
  match readFrame bytes trailingBits with
  | some req => goodFrame p req s'
  | none => badFrame p s'

/-- GET_NOTICES takes and empties the port's notice set in one event (R158). -/
def ownGetNotices : Owner := fun p _ s =>
  (s.setPort p { s.ports.get p with notices := NoticeSet.empty },
   okWith (be16 (noticeWord (s.ports.get p).notices)))

/-- GET_FAULTS reports the 15 records in source order (R168). -/
def ownGetFaults : Owner := reading fun _ _ s => okWith (s.faults.toList.flatMap faultForm)

/-- CLEAR_FAULTS empties one record, or all for 0xFF (R169). -/
def ownClearFaults : Owner := fun _ payload s =>
  let b := payload8 payload
  if h : b < 15 then ({ s with faults := put s.faults ⟨b, h⟩ FaultRecord.empty }, codeOnly .ok)
  else if b = 255 then ({ s with faults := Vector.replicate 15 FaultRecord.empty }, codeOnly .ok)
  else (s, codeOnly .range)

/-- UNKNOWN_KIND ends the execution of a request whose kind is not in the catalogue (R155 test 1). -/
def serveUnknown (p : Port) (s : State) : State :=
  match (s.ports.get p).slot with
  | .processing req =>
    if s.running ∧ kindOf? req.kind = none then answerSlot p req (codeOnly .unknownKind) s else s
  | .empty => s
  | .answered _ _ => s

/-- UNKNOWN_KIND (R155). -/
def execUnknownKind (port : Port) (s : State) : Host.Outcome State Fault Refusal := .next (serveUnknown port s)

/-- GET_NOTICES (R158). -/
def execGetNotices (port : Port) (s : State) : Host.Outcome State Fault Refusal :=
  .next (serve .getNotices ownGetNotices port s)

/-- GET_FAULTS (R168). -/
def execGetFaults (port : Port) (s : State) : Host.Outcome State Fault Refusal :=
  .next (serve .getFaults ownGetFaults port s)

/-- CLEAR_FAULTS (R169). -/
def execClearFaults (port : Port) (s : State) : Host.Outcome State Fault Refusal :=
  .next (serve .clearFaults ownClearFaults port s)

end Sys2Proof.Machine
end

