-- ==== Sys2Proof/Machine/Restart.lean ====
section
/-! DEFINITION. The restart controller (spec 11): the causes, the sequence, the hold check, the image load, RUNNING; with
the poll, whose delivery may begin a restart (R156, R172), and the disturbances of stored bits (R69, R174). -/
namespace Sys2Proof.Machine

/-! ### RUNNING (R173 stage 5) -/

/-- The lines driven from the records (R115). -/
def driveAlerts (s : State) : State := { s with passAlert := Vector.ofFn fun p => passAlarmed s.alarms p }

/-- RUNNING is reached: the groups take up the active configuration, the first boundary is set, each port holds RESTARTED
alone, the lines follow the records (R44, R61, R62, R115, R160, R173). -/
def reachRunning (s : State) : State :=
  driveAlerts
    { s with stage := .running, timebase := Timebase.restart,
             groups := Vector.ofFn fun g => takeUp s.active.config g (s.groups.get g),
             nextBoundary := BitVec.ofNat 32 s.active.config.globals.sweepPeriod,
             ports := { control := PortUnit.restarted, trip := PortUnit.restarted, service := PortUnit.restarted } }

/-! ### HOLD_CHECK (R173 stage 3) -/

/-- The hold check agrees: the supply holds and the stored check is that of the contents (R174). -/
def holdPasses (s : State) : Bool :=
  s.pins.holdSupply && decide (s.hold.check = holdCrc s.hold.contents)

/-- The warm restart count raised by one, held at 65535 (R171). -/
def raiseCount (n : Half) : Half := if n = 65535#16 then n else n + 1#16

/-- A pass record taken up from its retained entry; its spall timer counts afresh (R132). DESIGN CHOICE (log
40): the entry of an unused pass that a disturbance has left other than ONLINE is taken up as it stands. -/
def restoredPass (r : RetainedPass) : PassService :=
  { state := r.state, target := r.target, spallTimer := if r.state = .spall then some 0 else none,
    overdueNotified := false }

/-- A passed hold check (R19, R121, R132, R171, R173): the retained contents become current, with source HOLD. -/
def keepHold (s : State) : State :=
  let h := s.hold.contents
  reachRunning
    (rebuildHotList
      (retain (fun h => { h with source := .hold, lastCause := s.cause, warmCount := raiseCount h.warmCount })
        { s with active := { config := h.config, codes := h.codes, generation := h.generation, source := .hold },
                 passes := h.passes.map restoredPass, alarms := restoredAlarms h.alarms }))

/-- No alarm: every record IDLE, the hot list empty, every line deasserted (R123). -/
def clearAlarms (s : State) : State :=
  { s with alarms := Vector.replicate 640 AlarmRecord.idleRecord, hotList := [], unlisted := 0,
           passAlert := Vector.replicate 8 false }

/-- What a cold sequence clears: the hold domain, the alarm unit and the pass states (R115, R123, R132, R174). -/
def clearForCold (cause : RestartCause) (s : State) : State :=
  clearAlarms { s with hold := unsealHold (clearedHold cause), passes := Vector.replicate 8 PassService.online }

/-- A failed hold check: HOLD_CHECK to SWEEP, the hold domain cleared, and the sequence goes on as cold (R171, R173). -/
def loseHold (s : State) : State :=
  handFault .sweep .holdCheck .none
    (clearForCold .holdLost { s with cause := .holdLost, stage := .imageLoad })

/-- HOLD_CHECK of a warm sequence (R173). -/
def checkHold (s : State) : State := if holdPasses s then keepHold s else loseHold s

/-! ### The start of a sequence (R173 stages 1 and 2) -/

/-- A warm cause makes the hold check; the others load the image (R171, R173). -/
def warmCause : RestartCause → Bool
  | .resetPin => true
  | .brownout => true
  | .request => true
  | .powerOn => false
  | .holdLost => false

/-- After RESET_HELD (R173). -/
def leaveHeld (s : State) : State := if warmCause s.cause then checkHold s else { s with stage := .imageLoad }

/-- RESET_HELD lasts while RESET_N is low or the core supply has not returned (R173, log 19). -/
def passHeld (s : State) : State := if s.pins.resetLow ∨ s.pins.coreLow then s else leaveHeld s

/-- A port unit during a sequence: silent, its slot and flags at their restart values (R160). -/
def PortUnit.silent : PortUnit := { slot := .empty, overrun := false, frameError := false, notices := NoticeSet.empty }

/-- The restart values every block takes at the start of a sequence (R43, R60, R67, R89, R100, R149, R160, R170, R172,
R178; log 22 for what is kept until the kind is decided). -/
def abandon (cause : RestartCause) (s : State) : State :=
  { s with
    stage := .resetHeld, cause := cause, restartPending := none, strap := s.pins.noflash,
    timebase := Timebase.restart, groups := Vector.replicate 8 CaptureGroup.idle,
    readings := Vector.replicate 128 Reading.blank, edit := none, completed := 0#32, sweep := none,
    published := Vector.replicate 8 none, working := Vector.replicate 640 Working.restart, batch := none,
    scanTable := Vector.replicate 640 none,
    ports := { control := PortUnit.silent, trip := PortUnit.silent, service := PortUnit.silent },
    faults := Vector.replicate 15 FaultRecord.empty, store := none }

/-- A warm sequence begins (R171, R173). -/
def beginWarm (cause : RestartCause) (s : State) : State := passHeld (abandon cause s)

/-- A power-on (R171, R173): the supplies are back, and the hold domain is cleared at the start. -/
def powerOnEvent (s : State) : State :=
  passHeld
    (clearForCold .powerOn
      (abandon .powerOn { s with pins := { s.pins with coreLow := false, holdSupply := true } }))

/-- RESET_N driven low (R171). -/
def resetPinEvent (s : State) : State :=
  if s.pins.resetLow then s else beginWarm .resetPin { s with pins := { s.pins with resetLow := true } }

/-- The core supply falls below its threshold while the hold domain supply holds (R171). -/
def brownoutEvent (s : State) : State :=
  if s.pins.coreLow ∨ s.pins.holdSupply = false then s
  else beginWarm .brownout { s with pins := { s.pins with coreLow := true } }

/-- A level of the pins returned to normal. -/
def releaseLevel (l : HeldLevel) (p : Pins) : Pins :=
  match l with
  | .resetPin => { p with resetLow := false }
  | .coreSupply => { p with coreLow := false }

/-- The return of a level in RESET_HELD; the sequence goes on when both are back (R173, log 19). -/
def resetHeldEndEvent (l : HeldLevel) (s : State) : State :=
  if s.stage = .resetHeld then passHeld { s with pins := releaseLevel l s.pins } else s

/-! ### IMAGE_LOAD (R173 stage 4, R176) -/

/-- The hold domain as the end of IMAGE_LOAD writes it (R171, R173). -/
def coldHold (cause : RestartCause) (a : ActiveConfig) : HoldContents := retainConfig a (clearedHold cause)

/-- The fault of a load, if any (R176). -/
def reportLoad (o : LoadOutcome) (s : State) : State :=
  match loadFault o with
  | none => s
  | some k => handFault .store k .none s

/-- The end of IMAGE_LOAD (R173, R176), then RUNNING. -/
def imageLoadEvent (s : State) : State :=
  if s.stage = .imageLoad then
    let o := loadOutcome s.strap s.flash
    reachRunning
      (reportLoad o
        { s with active := loadedConfig o, passes := Vector.replicate 8 PassService.online,
                 hold := sealHold (coldHold s.cause (loadedConfig o)) })
  else s

/-! ### RESTART (R172) and the poll (R156) -/

/-- The time after which a pending restart begins, in ms (R172). -/
def restartDelay : Nat := 100

/-- RESTART (R172). -/
def ownRestart : Owner := fun _ _ s =>
  if s.store.isSome then (s, codeOnly .storeBusy)
  else match s.restartPending with
    | some _ => (s, codeOnly .ok)
    | none => ({ s with restartPending := some s.timebase.partTime }, codeOnly .ok)

/-- 100 ms after the answer a pending restart begins (R172). -/
def restartPendingExpiryEvent (s : State) : State :=
  match s.restartPending with
  | none => s
  | some t => if s.running ∧ restartDelay ≤ age s.timebase.partTime t then beginWarm .request s else s

/-- The slot holds a RESTART answered OK (R156). -/
def restartAnswered : Slot → Bool
  | .empty => false
  | .processing _ => false
  | .answered r a => decide (r.kind = kindByte .restart ∧ a.code = .ok)

/-- A poll of `clocked` whole bytes (R151, R156): the frame goes out; the whole frame of a RESTART answered OK delivers
it, and a pending restart begins (R172). DESIGN CHOICE (log 37): the answered RESTART may be a second one, taken while the
restart of the first is pending. -/
def takePoll (p : Port) (clocked : Nat) (s : State) : State :=
  let u := s.ports.get p
  let s' := driveOut p (shiftOut clocked (responseFrame u)) s
  if (responseFrame u).length ≤ clocked ∧ restartAnswered u.slot ∧ p = .service ∧ s.restartPending.isSome then
    beginWarm .request s'
  else s'

/-- A transaction that ends before its first byte has no effect; one that a restart sequence touches is ignored whole,
its data out not driven (R151, R160). -/
def transact (p : Port) (count : Nat) (begunEarly : Bool) (body : State → State) (s : State) : State :=
  if count = 0 then s
  else if s.running ∧ begunEarly = false then body s
  else driveOut p [] s

/-- The first byte decides the transaction's kind (R151). -/
def transactionEvent (p : Port) (bytes : List Byte) (trailingBits : Bool) (s : State) : State :=
  if bytes.head? = some 0#8 then takePoll p bytes.length s else takeTransaction p bytes trailingBits s

/-! ### Disturbances (R69, R174) -/

/-- A stored entry and its code disturbed without a write (R69, log 15). -/
def upsetEntry (i : CellIx) (e : CellEntry) (code : Byte) (s : State) : State :=
  { s with active := { s.active with config := { s.active.config with cells := put s.active.config.cells i e },
                                     codes := put s.active.codes i code } }

/-- The supply pins after a disturbance of the hold domain (R174). -/
def upsetPins (u : HoldUpset) (p : Pins) : Pins :=
  match u with
  | .supplyLost => { p with holdSupply := false }
  | .check _ | .line _ _ | .cell _ _ _ | .pass _ _ | .globals _ | .generation _ | .passState _ _ _ | .alarm _ _
  | .restartRecord _ _ => p

/-- The hold domain disturbed, its stored check not updated (R174, log 11). -/
def holdDisturbance (u : HoldUpset) (s : State) : State :=
  { s with hold := upsetHold u s.hold, pins := upsetPins u s.pins }

/-! ### The commands -/

/-- REQUEST_TRANSACTION (R151 to R154). -/
def execRequestTransaction (port : Port) (bytes : List Byte) (trailingBits begunEarly : Bool) (s : State) :
    Host.Outcome State Fault Refusal :=
  .next (transact port bytes.length begunEarly (transactionEvent port bytes trailingBits) s)

/-- POLL (R156). -/
def execPoll (port : Port) (clocked : Nat) (begunEarly : Bool) (s : State) : Host.Outcome State Fault Refusal :=
  .next (transact port clocked begunEarly (takePoll port clocked) s)

/-- RESTART (R172). -/
def execRestart (port : Port) (s : State) : Host.Outcome State Fault Refusal := .next (serve .restart ownRestart port s)

/-- POWER_ON (R171). -/
def execPowerOn (s : State) : Host.Outcome State Fault Refusal := .next (powerOnEvent s)

/-- RESET_PIN (R171). -/
def execResetPin (s : State) : Host.Outcome State Fault Refusal := .next (resetPinEvent s)

/-- BROWNOUT (R171). -/
def execBrownout (s : State) : Host.Outcome State Fault Refusal := .next (brownoutEvent s)

/-- RESET_HELD_END (R173). -/
def execResetHeldEnd (level : HeldLevel) (s : State) : Host.Outcome State Fault Refusal :=
  .next (resetHeldEndEvent level s)

/-- RESTART_PENDING_EXPIRY (R172). -/
def execRestartPendingExpiry (elapsed : Nat) (s : State) : Host.Outcome State Fault Refusal :=
  .next (restartPendingExpiryEvent (elapse elapsed s))

/-- IMAGE_LOAD (R176). -/
def execImageLoad (s : State) : Host.Outcome State Fault Refusal := .next (imageLoadEvent s)

/-- ENTRY_STORAGE_UPSET (R69). -/
def execEntryStorageUpset (cell : CellIx) (entry : CellEntry) (code : Byte) (s : State) :
    Host.Outcome State Fault Refusal := .next (upsetEntry cell entry code s)

/-- HOLD_DOMAIN_DISTURBANCE (R174). -/
def execHoldDomainDisturbance (upset : HoldUpset) (s : State) : Host.Outcome State Fault Refusal :=
  .next (holdDisturbance upset s)

end Sys2Proof.Machine
end

