-- ==== Sys2Proof/Machine/Status.lean ====
section
/-! DEFINITION. GET_STATUS (R99, R159, R162). -/
namespace Sys2Proof.Machine

/-- The fault source mask: bit n set while source n's count is not 0 (R159, R162). -/
def faultMask (faults : Vector FaultRecord 15) : Nat :=
  ((List.finRange 15).map fun n => weight (decide ((faults.get n).count ≠ 0)) (2 ^ n.1)).sum

/-- The claim holder, NONE while the claim is free (R133). -/
def claimHolder (s : State) : Option Port := s.edit.map fun e => e.holder

/-- Commit pending (R133). -/
def commitPendingNow (s : State) : Bool :=
  match s.edit with
  | none => false
  | some e => e.commitPending

/-- The batch items: NONE or OPEN, buffered samples, batch idle (R99). -/
def batchBytes (now : Word) : Option Batch → List Byte
  | none => byte1 0 ++ be16 0 ++ be32 0
  | some b => byte1 1 ++ be16 b.buffer.length ++ be32 (age now b.lastActivity)

/-- The status payload, 33 bytes (R162). -/
def statusPayload (s : State) : List Byte :=
  byte1 (timebaseCode s.timebase.state) ++ [flagByte s.timebase.breakSeen] ++ be16 s.timebase.epoch.toNat ++
    be32 s.timebase.partTime.toNat ++ be32 s.completed.toNat ++ be16 s.active.generation.toNat ++
    byte1 (sourceCode s.active.source) ++ byte1 (holderCode (claimHolder s)) ++ [flagByte (commitPendingNow s)] ++
    byte1 (storeCode (s.store.map fun x => x.stage)) ++ batchBytes s.timebase.partTime s.batch ++
    byte1 s.hotList.length ++ be16 s.unlisted ++ be16 (faultMask s.faults) ++
    byte1 (causeCode s.hold.contents.lastCause) ++ be16 s.hold.contents.warmCount.toNat

/-- GET_STATUS is answered OK and changes nothing (R159). -/
def ownGetStatus : Owner := reading fun _ _ s => okWith (statusPayload s)

/-- GET_STATUS (R159). -/
def execGetStatus (port : Port) (s : State) : Host.Outcome State Fault Refusal :=
  .next (serve .getStatus ownGetStatus port s)

end Sys2Proof.Machine
end

