-- ==== Sys2Proof/Machine/Dispatch.lean ====
section
/-! DEFINITION. One arm per row of spec/opcode_table.json, each one call of its meaning. -/
namespace Sys2Proof.Machine

def exec (i : Instr) (s : State) : Host.Outcome State Fault Refusal :=
  match i with
  | .requestTransaction port bytes trailingBits begunEarly => Sys2Proof.Machine.execRequestTransaction port bytes trailingBits begunEarly s
  | .poll port clocked begunEarly => Sys2Proof.Machine.execPoll port clocked begunEarly s
  | .unknownKind port => Sys2Proof.Machine.execUnknownKind port s
  | .getStatus port => Sys2Proof.Machine.execGetStatus port s
  | .getNotices port => Sys2Proof.Machine.execGetNotices port s
  | .getCell port => Sys2Proof.Machine.execGetCell port s
  | .getPass port => Sys2Proof.Machine.execGetPass port s
  | .getLine port => Sys2Proof.Machine.execGetLine port s
  | .getHotlist port => Sys2Proof.Machine.execGetHotlist port s
  | .getPassinfo port => Sys2Proof.Machine.execGetPassinfo port s
  | .acknowledge port => Sys2Proof.Machine.execAcknowledge port s
  | .setPassState port => Sys2Proof.Machine.execSetPassState port s
  | .claim port => Sys2Proof.Machine.execClaim port s
  | .release port => Sys2Proof.Machine.execRelease port s
  | .stageLine port => Sys2Proof.Machine.execStageLine port s
  | .stageCell port => Sys2Proof.Machine.execStageCell port s
  | .stagePass port => Sys2Proof.Machine.execStagePass port s
  | .stageGlobal port => Sys2Proof.Machine.execStageGlobal port s
  | .commit port => Sys2Proof.Machine.execCommit port s
  | .getConfig port => Sys2Proof.Machine.execGetConfig port s
  | .scanOpen port => Sys2Proof.Machine.execScanOpen port s
  | .scanPut port => Sys2Proof.Machine.execScanPut port s
  | .scanClose port => Sys2Proof.Machine.execScanClose port s
  | .scanDrop port => Sys2Proof.Machine.execScanDrop port s
  | .getFaults port => Sys2Proof.Machine.execGetFaults port s
  | .clearFaults port => Sys2Proof.Machine.execClearFaults port s
  | .storeImage port => Sys2Proof.Machine.execStoreImage port s
  | .restart port => Sys2Proof.Machine.execRestart port s
  | .settleEnd group elapsed => Sys2Proof.Machine.execSettleEnd group elapsed s
  | .armEdge group => Sys2Proof.Machine.execArmEdge group s
  | .armTimeout group elapsed => Sys2Proof.Machine.execArmTimeout group elapsed s
  | .countEnd group periods => Sys2Proof.Machine.execCountEnd group periods s
  | .countTimeout group elapsed => Sys2Proof.Machine.execCountTimeout group elapsed s
  | .widthEnd group => Sys2Proof.Machine.execWidthEnd group s
  | .widthTimeout group elapsed => Sys2Proof.Machine.execWidthTimeout group elapsed s
  | .readingRetire line elapsed => Sys2Proof.Machine.execReadingRetire line elapsed s
  | .crystalGap => Sys2Proof.Machine.execCrystalGap s
  | .crystalRestore elapsed => Sys2Proof.Machine.execCrystalRestore elapsed s
  | .lockReport => Sys2Proof.Machine.execLockReport s
  | .lossOfLockReport => Sys2Proof.Machine.execLossOfLockReport s
  | .lockTimeout elapsed => Sys2Proof.Machine.execLockTimeout elapsed s
  | .retryExpiry elapsed => Sys2Proof.Machine.execRetryExpiry elapsed s
  | .sweepBoundary elapsed => Sys2Proof.Machine.execSweepBoundary elapsed s
  | .cellComputation => Sys2Proof.Machine.execCellComputation s
  | .spallOverdue pass elapsed => Sys2Proof.Machine.execSpallOverdue pass elapsed s
  | .batchExpiry elapsed => Sys2Proof.Machine.execBatchExpiry elapsed s
  | .scanEntryRetire cell elapsed => Sys2Proof.Machine.execScanEntryRetire cell elapsed s
  | .claimExpiry elapsed => Sys2Proof.Machine.execClaimExpiry elapsed s
  | .powerOn => Sys2Proof.Machine.execPowerOn s
  | .resetPin => Sys2Proof.Machine.execResetPin s
  | .brownout => Sys2Proof.Machine.execBrownout s
  | .resetHeldEnd level => Sys2Proof.Machine.execResetHeldEnd level s
  | .restartPendingExpiry elapsed => Sys2Proof.Machine.execRestartPendingExpiry elapsed s
  | .imageLoad => Sys2Proof.Machine.execImageLoad s
  | .eraseEnd => Sys2Proof.Machine.execEraseEnd s
  | .writeEnd misread => Sys2Proof.Machine.execWriteEnd misread s
  | .storeCompletion => Sys2Proof.Machine.execStoreCompletion s
  | .crystalEdge => Sys2Proof.Machine.execCrystalEdge s
  | .cycleClose group periods => Sys2Proof.Machine.execCycleClose group periods s
  | .fallingEdge group periods => Sys2Proof.Machine.execFallingEdge group periods s
  | .entryStorageUpset cell entry code => Sys2Proof.Machine.execEntryStorageUpset cell entry code s
  | .holdDomainDisturbance upset => Sys2Proof.Machine.execHoldDomainDisturbance upset s

end Sys2Proof.Machine
end

