-- ==== Sys2Proof/Safety.lean ====
section
/-! DEFINITION. What counts as a good step and a good run: one that answers a next state; and the words that
several statements share: a request in a port's slot, what a STAGE request and POST leave, an image body
that its forms fill, an acknowledgement taken. -/
namespace Sys2Proof.Machine

/-- A step that answers a next state. -/
def Answers (o : Host.Outcome State Fault Refusal) (t : State) : Prop := o = .next t

/-- A state reached from another by steps that each answer a next state. -/
inductive Reaches : State → State → Prop where
  | start (s : State) : Reaches s s
  | further (s t u : State) (h : Reaches s t) (e : step t = .next u) : Reaches s u

/-- The command that executes a request of a kind in a port's slot. -/
def requestCommand (k : RequestKind) (p : Port) : Instr :=
  match k with
  | .getStatus => .getStatus p
  | .getNotices => .getNotices p
  | .getCell => .getCell p
  | .getPass => .getPass p
  | .getLine => .getLine p
  | .getHotlist => .getHotlist p
  | .getPassinfo => .getPassinfo p
  | .acknowledge => .acknowledge p
  | .setPassState => .setPassState p
  | .claim => .claim p
  | .release => .release p
  | .stageLine => .stageLine p
  | .stageCell => .stageCell p
  | .stagePass => .stagePass p
  | .stageGlobal => .stageGlobal p
  | .commit => .commit p
  | .getConfig => .getConfig p
  | .scanOpen => .scanOpen p
  | .scanPut => .scanPut p
  | .scanClose => .scanClose p
  | .scanDrop => .scanDrop p
  | .getFaults => .getFaults p
  | .clearFaults => .clearFaults p
  | .storeImage => .storeImage p
  | .restart => .restart p

/-- Outside a restart sequence, the slot of port `p` holds in PROCESSING a request of kind `k`. -/
abbrev Asks (k : RequestKind) (p : Port) (tag : Byte) (payload : List Byte) (s : State) : Prop :=
  s.stage = .running ∧ (s.ports.get p).slot = .processing { kind := kindByte k, tag := tag, payload := payload }

/-- The state in which that request has been answered. -/
def answered (k : RequestKind) (p : Port) (tag : Byte) (payload : List Byte) (r : Reply) (s : State) : State :=
  s.setPort p
    { s.ports.get p with slot := .answered { kind := kindByte k, tag := tag, payload := payload } r }

/-- The payload of a STAGE request of kind `k` is the form of a record and index within their ranges, and `after` is
`before` with that record replaced (R139 to R141). -/
def StagesRecord (k : RequestKind) (payload : List Byte) (before after : Configuration) : Prop :=
  match k with
  | .stageLine => ∃ (i : LineIx) (r : LineRecord), lineInRange r = true ∧
      payload = BitVec.ofNat 8 i.1 :: lineForm r ∧ after = { before with lines := put before.lines i r }
  | .stageCell => ∃ (i : CellIx) (e : CellEntry), cellInRange e = true ∧
      payload = cellForm i.1 e ∧ after = { before with cells := put before.cells i e }
  | .stagePass => ∃ (i : PassIx) (r : PassRecord), passInRange r = true ∧
      payload = BitVec.ofNat 8 i.1 :: passForm r ∧ after = { before with passes := put before.passes i r }
  | .stageGlobal => ∃ r : GlobalRecord, globalInRange r = true ∧
      payload = globalForm r ∧ after = { before with globals := r }
  | _ => False

/-- A skin slot of a group names a used line (R3). -/
def UsedSlot (c : Configuration) (g : GroupIx) (slot : SlotIx) : Prop :=
  slot ≠ 0 ∧ (c.lines.get (lineOf g slot)).fitted = true ∧
    ∃ i, cellExists c i = true ∧ ∃ item ∈ (c.cells.get i).sources, item.line = (lineOf g slot).1

/-- The line of a slot is still wanted: a used skin line, or the fitted reference of a group with a used line (R40). -/
def Wanted (c : Configuration) (g : GroupIx) (slot : SlotIx) : Prop :=
  UsedSlot c g slot ∨ slot = 0 ∧ (c.lines.get (lineOf g 0)).fitted = true ∧ ∃ k, UsedSlot c g k

/-- `t` is what POST leaves of `s` where a measurement of a slot gave the record `r` under one epoch (R35 to R41). The
record replaces the line's whole. For a skin line, a fall from OK or NONE hands the fault of the new status. For the
reference, an accepted one becomes the last reference, any other clears it, and entering FAULT hands REF_BAD. Then the
group moves on; where an application came meanwhile, it takes up the configuration, and a line no longer wanted keeps its
record. -/
def PostStores (g : GroupIx) (slot : SlotIx) (r : Reading) (s t : State) : Prop :=
  ∃ w : State,
    (∀ v : State, slot ≠ 0 → v = { s with readings := put s.readings (lineOf g slot) r } →
      ((s.readings.get (lineOf g slot)).status = .none ∨ (s.readings.get (lineOf g slot)).status = .ok →
        (r.status = .ok → w = v) ∧
        (r.status = .noSignal → w = handFault (.group g) .noSignal (.line (lineOf g slot)) v) ∧
        (r.status = .headFault → w = handFault (.group g) .headFault (.line (lineOf g slot)) v) ∧
        (r.status = .dutyBad → w = handFault (.group g) .dutyBad (.line (lineOf g slot)) v) ∧
        (r.status = .range → w = handFault (.group g) .range (.line (lineOf g slot)) v)) ∧
      ((s.readings.get (lineOf g slot)).status ≠ .none → (s.readings.get (lineOf g slot)).status ≠ .ok → w = v)) ∧
    (∀ (v : State) (x : CaptureGroup), slot = 0 → x = s.groups.get g →
      v = { s with
            readings := put s.readings (lineOf g 0) r
            groups := (put s.groups g
              { x with
                refStatus := if r.status = .ok then .ok else .fault
                lastRef := if r.status = .ok then
                    r.frequency.map fun f => { frequency := f, epoch := r.epoch, stamp := r.stamp }
                  else none }) } →
      w = if r.status ≠ .ok ∧ x.refStatus ≠ .fault then handFault (.group g) .refBad (.line (lineOf g 0)) v else v) ∧
    ((s.groups.get g).applied = false → t = updateGroup moveOn g w) ∧
    ((s.groups.get g).applied = true →
      (Wanted s.active.config g slot → t = updateGroup takeUp g w) ∧
      (¬ Wanted s.active.config g slot → t = updateGroup takeUp g s))

/-- The forms of R175 fill a body exactly: 640 bytes of line records, the 640 cell entry forms in index order, each with its
own index, three bytes per item of its source count and a fallback marker of 0, or of 1 with four bytes after it, and 155
bytes of pass and global records (R176). -/
def FormsFill (body : List Byte) : Prop :=
  ∃ (lines tail : List Byte) (form : CellIx → List Byte), lines.length = 640 ∧ tail.length = 155 ∧
    (∀ i, ∃ (items : List (Byte × Byte × Byte)) (fallback : List Byte), items.length ≤ 255 ∧
      (fallback = [0#8] ∨ ∃ a b c d : Byte, fallback = [1#8, a, b, c, d]) ∧
      form i = be16 i.1 ++ byte1 items.length ++ items.flatMap (fun x => [x.1, x.2.1, x.2.2]) ++ fallback) ∧
    body = lines ++ (List.finRange 640).flatMap form ++ tail

/-- The ACKNOWLEDGE that the trip port's slot holds names HIGHHIGH and cell `i`, and is the command taken (R108, R110). -/
def TripAcknowledges (i : CellIx) (s : State) : Prop :=
  s.pending.head? = some (.acknowledge .trip) ∧
    ∃ tag hi lo : Byte, Asks .acknowledge .trip tag [hi, lo, 3#8] s ∧ hi.toNat * 256 + lo.toNat = i.1

/-! ### What every step keeps -/

/-- The hot list, the unlisted count and the alert lines are those of the alarm records as they stand (R112, R113, R115). -/
def AlarmOutputsFollow (s : State) : Prop :=
  s.hotList = (rankedCells s.alarms).take 16 ∧ s.unlisted = (rankedCells s.alarms).length - 16 ∧
  ∀ p : PassIx, s.passAlert.get p = passAlarmed s.alarms p

/-- The timebase unit's timers run in their own states alone, and break-seen is set in LOCKED alone (R45, R47 to R54). -/
def TimebaseLegal (t : Timebase) : Prop :=
  (t.proving.isSome = true → t.state = .holdover) ∧ (t.lock.isSome = true ↔ t.state = .acquiring) ∧
  (t.retry.isSome = true → t.state = .bypass) ∧ (t.breakSeen = true → t.state = .locked)

/-- A group with an empty scan list is parked and measures nothing; any other measures, its cursor inside the list (R22 to
R25). -/
def GroupLegal (x : CaptureGroup) : Prop :=
  (x.parked = true ↔ x.scanList = []) ∧ (x.measurement = none ↔ x.scanList = []) ∧
  (x.scanList ≠ [] → x.cursor < x.scanList.length)

/-- A pass counts its spall time in SPALL alone, up to 65535 minutes (R130). -/
def PassLegal (x : PassService) : Prop :=
  (x.spallTimer.isSome = true ↔ x.state = .spall) ∧ ∀ t, x.spallTimer = some t → t ≤ 65535 * 60000

/-- A fault record is empty exactly when its count is 0, and counts no further than 255 (R165, R166). -/
def FaultLegal (r : FaultRecord) : Prop := (r.count = 0 ↔ r = FaultRecord.empty) ∧ r.count ≤ 255

/-- The claim is never the trip port's, and its timer runs exactly while no commit is pending (R133, R135). -/
def ClaimLegal (e : EditClaim) : Prop := e.holder ≠ .trip ∧ (e.timer = none ↔ e.commitPending = true)

/-- A batch is the service port's; its buffer holds at most 256 samples, one per cell (R90, R92). -/
def BatchLegal (b : Batch) : Prop :=
  b.owner = .service ∧ b.buffer.length ≤ 256 ∧ b.buffer.Pairwise fun x y => x.cell.1 < y.cell.1

/-- Outside RUNNING nothing is in flight: no store, sweep, batch, claim or pending restart, every slot EMPTY, every group
without a measurement, part time at 0 (R60, R67, R100, R149, R160, R172, R178). -/
def Quiet (s : State) : Prop :=
  s.store = none ∧ s.sweep = none ∧ s.batch = none ∧ s.edit = none ∧ s.restartPending = none ∧
  (∀ p : Port, (s.ports.get p).slot = .empty) ∧ (∀ g : GroupIx, (s.groups.get g).measurement = none) ∧
  s.timebase = Timebase.restart

/-- Every unit's state is one that the spec admits: a sweep in flight has cells to compute, RESET_HELD is where RESET_N or
the core supply is low, and outside RUNNING nothing is in flight. -/
def UnitsLegal (s : State) : Prop :=
  TimebaseLegal s.timebase ∧ (∀ g : GroupIx, GroupLegal (s.groups.get g)) ∧
  (∀ p : PassIx, PassLegal (s.passes.get p)) ∧ (∀ n : Fin 15, FaultLegal (s.faults.get n)) ∧
  (∀ e, s.edit = some e → ClaimLegal e) ∧ (∀ b, s.batch = some b → BatchLegal b) ∧
  (∀ run, s.sweep = some run → run.todo ≠ []) ∧
  (s.stage = .resetHeld ↔ s.pins.resetLow = true ∨ s.pins.coreLow = true) ∧ (s.stage ≠ .running → Quiet s)

end Sys2Proof.Machine
end

