-- ==== Sys2Proof/Certificates/Slice0/Obligations.lean ====
section
/-! DEFINITION. The statements for the provers: what the commands of the TM2640 do, what they leave unchanged, and what
every step keeps. A statement's equation of next states says both at once: a field it does not name stays. -/
open Sys2Proof Sys2Proof.Machine

/-! ### The queue and time -/

/-- The command at the front of the queue runs on the state with the queue's rest. -/
def Obligations.StepRunsFrontCommand : Prop :=
  ∀ (c : Instr) (rest : List Instr) (s : State), s.pending = c :: rest →
    step s = exec c { s with pending := rest }

/-- Every command answers a next state from every state and leaves the queue as it is. On an empty queue one
millisecond of part time passes. The passing of any number of milliseconds counts part time and every timer that runs,
outside a restart sequence, and changes nothing in one. That an empty queue passes a millisecond, and that an expiry
lets its operand of them pass first, is the model's choice (log 1); that a sequence counts none is R60. -/
def Obligations.EveryStepAnswers : Prop :=
  (∀ (c : Instr) (s : State), ∃ t, exec c s = .next t ∧ t.pending = s.pending) ∧
  (∀ s : State, s.pending = [] → step s = .next (elapse 1 s)) ∧
  (∀ (ms : Nat) (s : State),
     (s.stage ≠ .running → elapse ms s = s) ∧
     (s.stage = .running →
       elapse ms s =
         { s with
           timebase := { s.timebase with
             partTime := s.timebase.partTime + BitVec.ofNat 32 ms, proving := s.timebase.proving.map (· + ms),
             lock := s.timebase.lock.map (· + ms), retry := s.timebase.retry.map (· + ms) }
           groups := s.groups.map fun g =>
             { g with measurement := g.measurement.map fun m => { m with timer := m.timer + ms } }
           passes := s.passes.map fun p =>
             { p with spallTimer := p.spallTimer.map fun t => min (t + ms) (65535 * 60000) } }))

/-! ### Transactions and the slot -/

/-- A transaction carries a good frame exactly when it is the frame of a request of at most 64 payload bytes, with no
trailing bits (R152). -/
def Obligations.GoodFramesAreRequestFrames : Prop :=
  ∀ (bytes : List Byte) (trailing : Bool) (r : Request),
    readFrame bytes trailing = some r ↔
      trailing = false ∧ r.payload.length ≤ 64 ∧
        bytes = r.kind :: r.tag :: BitVec.ofNat 8 r.payload.length :: r.payload ++
          be16 (crc16 (r.kind :: r.tag :: BitVec.ofNat 8 r.payload.length :: r.payload)).toNat

/-- A good frame at an EMPTY or ANSWERED slot becomes its request and clears both error flags; at a PROCESSING slot it
is discarded, OVERRUN is set and an OVERRUN fault handed; a bad frame sets FRAME_ERROR and hands a FRAME_CHECK fault,
whatever the slot holds. The status byte and then zeros go out (R151 to R154; what went out stands in the model's own
record, log 5). -/
def Obligations.RequestFramesJudged : Prop :=
  (∀ (p : Port) (bytes : List Byte) (r : Request) (s : State),
     s.stage = .running → bytes.head? ≠ some 0#8 → readFrame bytes false = some r →
     (∀ q, (s.ports.get p).slot ≠ .processing q) →
     exec (.requestTransaction p bytes false false) s = .next
       { s with
         ports := s.ports.set p { s.ports.get p with slot := .processing r, overrun := false, frameError := false }
         dataOut := s.dataOut.set p (statusByte (s.ports.get p) :: List.replicate (bytes.length - 1) 0#8) }) ∧
  (∀ (p : Port) (bytes : List Byte) (r q : Request) (s : State),
     s.stage = .running → bytes.head? ≠ some 0#8 → readFrame bytes false = some r →
     (s.ports.get p).slot = .processing q →
     exec (.requestTransaction p bytes false false) s = .next
       (handFault (.port p) .overrun .none
         { s with
           ports := s.ports.set p { s.ports.get p with overrun := true }
           dataOut := s.dataOut.set p (statusByte (s.ports.get p) :: List.replicate (bytes.length - 1) 0#8) })) ∧
  (∀ (p : Port) (bytes : List Byte) (trailing : Bool) (s : State),
     s.stage = .running → bytes ≠ [] → bytes.head? ≠ some 0#8 → readFrame bytes trailing = none →
     exec (.requestTransaction p bytes trailing false) s = .next
       (handFault (.port p) .frameCheck .none
         { s with
           ports := s.ports.set p { s.ports.get p with frameError := true }
           dataOut := s.dataOut.set p (statusByte (s.ports.get p) :: List.replicate (bytes.length - 1) 0#8) }))

/-- A transaction that a restart sequence touches is ignored whole, its data out not driven; one that ends before its
first byte has no effect (R151, R160). -/
def Obligations.RestartSilencesPorts : Prop :=
  ∀ (p : Port) (bytes : List Byte) (n : Nat) (trailing begun : Bool) (s : State),
    (bytes = [] → exec (.requestTransaction p bytes trailing begun) s = .next s) ∧
    (exec (.poll p 0 begun) s = .next s) ∧
    (s.stage ≠ .running ∨ begun = true → bytes ≠ [] → 1 ≤ n →
      exec (.requestTransaction p bytes trailing begun) s = .next { s with dataOut := s.dataOut.set p [] } ∧
      exec (.poll p n begun) s = .next { s with dataOut := s.dataOut.set p [] })

/-- A poll shifts out the response frame of the slot and its flags, then zeros, and changes nothing else, unless it
delivers a RESTART answered OK (R151, R156). -/
def Obligations.PollShiftsResponseFrame : Prop :=
  ∀ (p : Port) (n : Nat) (s : State), s.stage = .running → 1 ≤ n →
    ∀ (status : Byte) (body : List Byte),
      status = BitVec.ofNat 8
        ((if isAnswered (s.ports.get p).slot then 128 else 0) +
          (if (s.ports.get p).overrun then 64 else 0) + (if (s.ports.get p).frameError then 32 else 0) +
          (if (s.ports.get p).notices = NoticeSet.empty then 0 else 16)) →
      ((s.ports.get p).slot = .empty → body = [status, 0#8, 0#8, 0#8, 0#8]) →
      (∀ r, (s.ports.get p).slot = .processing r → body = [status, r.tag, 0#8, 0#8, 0#8]) →
      (∀ r a, (s.ports.get p).slot = .answered r a →
        body = status :: r.tag :: resultByte a.code :: be16 a.payload.length ++ a.payload) →
      (n < body.length + 2 ∨ p ≠ .service ∨ s.restartPending = none ∨
        ∀ r a, (s.ports.get p).slot = .answered r a → r.kind ≠ 0x61#8 ∨ a.code ≠ .ok) →
      exec (.poll p n false) s = .next
        { s with dataOut := s.dataOut.set p
                   ((body ++ be16 (crc16 body).toNat ++ List.replicate n 0#8).take n) }

/-! ### The catalogue -/

/-- The catalogue's rows: kind byte, the ports admitted, and the fixed payload length (R163). The codes of the
enumerations, the result codes, the fault kinds and the numbers of the fault sources (R161, R162, R165). The layouts
of the record forms (R162), in which bits 6 to 4 of the byte of condition severity and restored are 0 by the model's
choice (log 33). The check code of a cell entry over its check sequence (R8, R9). -/
def Obligations.CatalogueAsListed : Prop :=
  (∀ k : RequestKind,
     ((kindByte k).toNat, admitted k .control, admitted k .trip, admitted k .service, fixedLength k) =
       match k with
       | .getStatus => (0x01, true, true, true, some 0)
       | .getNotices => (0x02, true, true, true, some 0)
       | .getCell => (0x10, true, true, true, some 2)
       | .getPass => (0x11, true, true, true, some 1)
       | .getLine => (0x12, true, false, true, some 1)
       | .getHotlist => (0x13, true, true, true, some 0)
       | .getPassinfo => (0x14, true, true, true, some 1)
       | .acknowledge => (0x20, true, true, false, some 3)
       | .setPassState => (0x21, true, false, false, some 2)
       | .claim => (0x30, true, false, true, some 0)
       | .release => (0x31, true, false, true, some 0)
       | .stageLine => (0x32, true, false, true, some 6)
       | .stageCell => (0x33, true, false, true, none)
       | .stagePass => (0x34, true, false, true, some 15)
       | .stageGlobal => (0x35, true, false, true, some 43)
       | .commit => (0x36, true, false, true, some 0)
       | .getConfig => (0x37, true, false, true, some 4)
       | .scanOpen => (0x40, false, false, true, some 0)
       | .scanPut => (0x41, false, false, true, none)
       | .scanClose => (0x42, false, false, true, some 0)
       | .scanDrop => (0x43, false, false, true, some 0)
       | .getFaults => (0x50, true, true, true, some 0)
       | .clearFaults => (0x51, false, false, true, some 1)
       | .storeImage => (0x60, true, false, true, some 0)
       | .restart => (0x61, false, false, true, some 0)) ∧
  (∀ (q : Quality) (src : CellSource) (a : AlarmState) (v : Severity) (st : PassState) (r : ReadingStatus) (ref : RefStatus)
     (tb : TimebaseState) (k : RestartCause) (policy : RelockPolicy) (from' : ConfigSource),
     qualityCode q = (match q with
       | .good => 0 | .degraded => 1 | .uncertain => 2 | .stale => 3 | .noData => 4 | .checkFail => 5 | .offline => 6) ∧
     cellSourceCode src = (match src with
       | .heads => 0 | .headsSplit => 1 | .scan => 2 | .scanOverride => 3 | .neighbor => 4 | .held => 5 | .none => 6) ∧
     alarmStateCode a = (match a with | .idle => 0 | .raised => 1 | .held => 2 | .lingering => 3) ∧
     severityCode v = (match v with | .none => 0 | .rate => 1 | .high => 2 | .highHigh => 3) ∧
     passStateCode st = (match st with | .online => 0 | .spall => 1 | .offline => 2) ∧
     readingStatusCode r = (match r with
       | .none => 0 | .ok => 1 | .headFault => 2 | .dutyBad => 3 | .noSignal => 4 | .range => 5) ∧
     refStatusCode ref = (match ref with | .none => 0 | .ok => 1 | .fault => 2) ∧
     timebaseCode tb = (match tb with | .holdover => 0 | .bypass => 1 | .acquiring => 2 | .locked => 3) ∧
     causeCode k = (match k with
       | .powerOn => 0 | .resetPin => 1 | .brownout => 2 | .request => 3 | .holdLost => 4) ∧
     relockCode policy = (match policy with | .relock => 0 | .ride => 1) ∧
     sourceCode from' = (match from' with | .image => 0 | .commit => 1 | .empty => 2 | .hold => 3)) ∧
  (∀ (code : ResultCode) (kind : FaultKind) (reason : CommitReason) (g : GroupIx),
     resultByte code = (match code with
       | .ok => 0x01#8 | .accepted => 0x02#8 | .rejected => 0x03#8 | .unknownKind => 0x10#8 | .denied => 0x11#8
       | .range => 0x12#8 | .noCell => 0x13#8 | .ackMismatch => 0x20#8 | .nothingToAck => 0x21#8
       | .badTransition => 0x22#8 | .spallLimit => 0x23#8 | .alreadyHeld => 0x30#8 | .heldElsewhere => 0x31#8
       | .notHolder => 0x32#8 | .commitPending => 0x33#8 | .batchOpen => 0x40#8 | .batchFull => 0x41#8
       | .noBatch => 0x42#8 | .storeBusy => 0x50#8 | .noFlash => 0x51#8) ∧
     faultKindCode kind = (match kind with
       | .noSignal => 0x01 | .headFault => 0x02 | .dutyBad => 0x03 | .range => 0x04 | .refBad => 0x05
       | .abortRepeat => 0x06 | .xtalFail => 0x10 | .lockBreak => 0x11 | .lockTimeout => 0x12 | .checkMismatch => 0x20
       | .holdCheck => 0x21 | .scanExpired => 0x30 | .sampleRejected => 0x31 | .flashAbsent => 0x40 | .loadCheck => 0x41
       | .loadInvalid => 0x42 | .storeVerify => 0x43 | .frameCheck => 0x50 | .overrun => 0x51) ∧
     reasonCode reason = (match reason with
       | .range => 1 | .limitOrder => 2 | .cellOutside => 3 | .lineReference => 4 | .lineUnfitted => 5
       | .fallbackSelf => 6 | .fallbackOtherPass => 7 | .fallbackMissing => 8 | .lineReused => 9 | .cellAlarmed => 10) ∧
     (sourceIx (.group g)).1 = g.1 ∧ sourceIx .timebase = 8 ∧ sourceIx .sweep = 9 ∧ sourceIx .scan = 10 ∧
     sourceIx .store = 11 ∧ sourceIx (.port .control) = 12 ∧ sourceIx (.port .trip) = 13 ∧
     sourceIx (.port .service) = 14) ∧
  (∀ n : Nat,
     byte1 n = [BitVec.ofNat 8 n] ∧ be16 n = [BitVec.ofNat 8 (n / 256), BitVec.ofNat 8 n] ∧
     be32 n = [BitVec.ofNat 8 (n / 16777216), BitVec.ofNat 8 (n / 65536), BitVec.ofNat 8 (n / 256), BitVec.ofNat 8 n]) ∧
  (∀ (absentOr : Option Int → List Byte) (bit : Bool → Nat),
     (∀ v, absentOr v = match v with | none => be16 0x8000 | some x => be16 (x % 65536).toNat) →
     (∀ b, bit b = if b then 1 else 0) →
     (∀ (r : CellRecord) (a : AlarmRecord),
       cellRecordForm r a =
         absentOr r.estimate ++ byte1 (qualityCode r.quality * 16 + cellSourceCode r.source) ++
         byte1 (alarmStateCode a.state * 16 + severityCode a.severity) ++ absentOr r.rate ++ byte1 r.age ++
         byte1 (r.contributors % 4 + bit r.scanPresent * 4)) ∧
     (∀ a : AlarmRecord,
       alarmForm a =
         byte1 (alarmStateCode a.state * 16 + severityCode a.severity) ++
         byte1 (severityCode a.condition + bit a.restored * 128) ++ absentOr a.peak ++ be32 a.raisedSweep.toNat) ∧
     (∀ (i : CellIx) (a : AlarmRecord) (estimate : Option Int),
       hotListForm i a estimate =
         be16 i.1 ++ byte1 (alarmStateCode a.state * 16 + severityCode a.severity) ++
         byte1 (severityCode a.condition + bit a.restored * 128) ++ absentOr estimate ++ absentOr a.peak ++
         be32 a.raisedSweep.toNat) ∧
     (∀ r : Reading,
       readingForm r =
         byte1 (readingStatusCode r.status) ++
         byte1 (match r.quality with | none => 0xFF | some q => qualityCode q) ++ byte1 (bit r.corrected) ++
         absentOr r.temperature ++ be32 (match r.frequency with | none => 0xFFFFFFFF | some f => f.toNat) ++
         be16 r.epoch.toNat ++ be32 r.stamp.toNat) ∧
     (∀ r : FaultRecord,
       faultForm r =
         byte1 (match r.firstKind with | none => 0xFF | some k => faultKindCode k) ++ be32 r.firstStamp.toNat ++
         (match r.firstDetail with
           | .none => byte1 0 ++ be16 0xFFFF
           | .line l => byte1 1 ++ be16 l.1
           | .cell i => byte1 2 ++ be16 i.1) ++
         byte1 r.count ++ byte1 (bit r.other)) ∧
     (∀ r : LineRecord,
       lineForm r = byte1 (bit r.fitted) ++ be16 (r.zeroTrim % 65536).toNat ++ be16 r.span) ∧
     (∀ r : PassRecord,
       passForm r =
         byte1 r.tubeCount ++ byte1 r.levelCount ++ be16 r.high ++ be16 r.highHigh ++ be16 r.spallHigh ++
         be16 r.spallHighHigh ++ be16 r.deadband ++ be16 r.rateLimit) ∧
     (∀ r : GlobalRecord,
       globalForm r =
         be16 r.sweepPeriod ++ byte1 r.staleLimit ++ byte1 r.staleHold ++ be16 r.disagreement ++ be16 r.scanMargin ++
         be32 r.scanValidAge ++ byte1 r.rateWindow ++ byte1 r.maxSpall ++ be16 r.spallOverdue ++
         byte1 (bit r.multiplierEnable) ++ byte1 (relockCode r.relock) ++ byte1 r.referenceAge ++
         r.groups.toList.flatMap fun x => be16 x.window ++ byte1 x.interleave) ∧
     (∀ (i : Nat) (e : CellEntry) (sequence : List Byte),
       sequence =
         be16 i ++ byte1 e.sources.length ++
         e.sources.flatMap (fun x => byte1 x.line ++ be16 (x.trim % 65536).toNat) ++
         (match e.fallback with
           | none => byte1 0
           | some f => byte1 1 ++ be16 f.cell ++ be16 (f.offset % 65536).toNat) →
       cellForm i e = sequence ∧
       checkCode i e = sequence.foldl (fun code value => code.rotateLeft 1 ^^^ value) 0x5A#8))

/-- The three tests of the catalogue (R155): a kind outside it is answered UNKNOWN_KIND, a port not admitted DENIED, a
wrong fixed length RANGE; each with an empty payload and no other effect. -/
def Obligations.CatalogueTestsRefuse : Prop :=
  (∀ (k : RequestKind) (p : Port) (tag : Byte) (payload : List Byte) (s : State), Asks k p tag payload s →
     (admitted k p = false →
       exec (requestCommand k p) s = .next (answered k p tag payload { code := .denied, payload := [] } s)) ∧
     (∀ n, admitted k p = true → fixedLength k = some n → payload.length ≠ n →
       exec (requestCommand k p) s = .next (answered k p tag payload { code := .range, payload := [] } s))) ∧
  (∀ (p : Port) (r : Request) (s : State), s.stage = .running → (s.ports.get p).slot = .processing r →
     (∀ k : RequestKind, kindByte k ≠ r.kind) →
     exec (.unknownKind p) s = .next
       { s with ports := s.ports.set p
                  { s.ports.get p with slot := .answered r { code := .unknownKind, payload := [] } } })

/-! ### Reading requests and the fault bank -/

/-- GET_STATUS answers OK with the status payload of 33 bytes in the layout of 9.7.2 (R159, R162). GET_HOTLIST answers
OK with the completed sweeps, the counts and the entries in hot-list order (R114, R163). -/
def Obligations.StatusAndHotListReported : Prop :=
  (∀ (p : Port) (tag : Byte) (s : State), Asks .getStatus p tag [] s →
     ∃ payload,
       exec (.getStatus p) s = .next (answered .getStatus p tag [] { code := .ok, payload := payload } s) ∧
       payload.length = 33 ∧
       payload =
         byte1 (timebaseCode s.timebase.state) ++ byte1 (if s.timebase.breakSeen then 1 else 0) ++
         be16 s.timebase.epoch.toNat ++ be32 s.timebase.partTime.toNat ++ be32 s.completed.toNat ++
         be16 s.active.generation.toNat ++ byte1 (sourceCode s.active.source) ++
         (match s.edit with
           | none => byte1 0 ++ byte1 0
           | some e => byte1 (match e.holder with | .control => 1 | .service => 2 | .trip => 0) ++
               byte1 (if e.commitPending then 1 else 0)) ++
         byte1 (match s.store with
           | none => 0
           | some x => match x.stage with | .erase => 1 | .write => 2 | .verify => 3) ++
         (match s.batch with
           | none => byte1 0 ++ be16 0 ++ be32 0
           | some b => byte1 1 ++ be16 b.buffer.length ++ be32 (s.timebase.partTime - b.lastActivity).toNat) ++
         byte1 s.hotList.length ++ be16 s.unlisted ++
         be16 ((List.finRange 15).map fun n => if (s.faults.get n).count ≠ 0 then 2 ^ n.1 else 0).sum ++
         byte1 (causeCode s.hold.contents.lastCause) ++ be16 s.hold.contents.warmCount.toNat) ∧
  (∀ (p : Port) (tag : Byte) (s : State), Asks .getHotlist p tag [] s →
     exec (.getHotlist p) s = .next (answered .getHotlist p tag []
       { code := .ok
         payload :=
           be32 s.completed.toNat ++ byte1 s.hotList.length ++ be16 s.unlisted ++
           s.hotList.flatMap fun i =>
             hotListForm i (s.alarms.get i)
               (match s.published.get (passOf i) with
                 | none => none
                 | some x => (x.records.get (placeOf i)).estimate) } s))

/-- GET_CELL: NO_CELL for an index that names no existing cell, else OK with the cell's published record, its tags and
its alarm record (R85, R163). GET_PASS: RANGE above 7, NO_CELL for an unused pass, else OK with one publication of the
pass (R86, R163). -/
def Obligations.CellsAndPassesReported : Prop :=
  (∀ (p : Port) (tag hi lo : Byte) (s : State), Asks .getCell p tag [hi, lo] s →
     ((∀ i : CellIx, i.1 = hi.toNat * 256 + lo.toNat → cellExists s.active.config i = false) →
       exec (.getCell p) s = .next (answered .getCell p tag [hi, lo] { code := .noCell, payload := [] } s)) ∧
     (∀ i : CellIx, i.1 = hi.toNat * 256 + lo.toNat → cellExists s.active.config i = true →
       exec (.getCell p) s = .next (answered .getCell p tag [hi, lo]
         { code := .ok
           payload :=
             be16 i.1 ++
             (match s.published.get (passOf i) with
               | none => be32 0 ++ be16 s.active.generation.toNat ++
                   cellRecordForm CellRecord.unpublished (s.alarms.get i)
               | some x => be32 x.sweep.toNat ++ be16 x.generation.toNat ++
                   cellRecordForm (x.records.get (placeOf i)) (s.alarms.get i)) ++
             alarmForm (s.alarms.get i) } s))) ∧
  (∀ (p : Port) (tag b : Byte) (s : State), Asks .getPass p tag [b] s →
     (8 ≤ b.toNat → exec (.getPass p) s = .next (answered .getPass p tag [b] { code := .range, payload := [] } s)) ∧
     (∀ q : PassIx, q.1 = b.toNat →
       ((s.active.config.passes.get q).tubeCount = 0 →
         exec (.getPass p) s = .next (answered .getPass p tag [b] { code := .noCell, payload := [] } s)) ∧
       (1 ≤ (s.active.config.passes.get q).tubeCount →
         ∃ x : Publication,
           (s.published.get q = some x ∨
             s.published.get q = none ∧ x.sweep = 0#32 ∧ x.generation = s.active.generation ∧
               x.tubeCount = (s.active.config.passes.get q).tubeCount ∧
               x.levelCount = (s.active.config.passes.get q).levelCount ∧
               ∀ k, x.records.get k = CellRecord.unpublished) ∧
           exec (.getPass p) s = .next (answered .getPass p tag [b]
             { code := .ok
               payload :=
                 be32 x.sweep.toNat ++ be16 x.generation.toNat ++ byte1 q.1 ++ byte1 x.tubeCount ++
                 byte1 x.levelCount ++
                 ((List.finRange 80).filter fun k => k.1 / 4 < x.tubeCount ∧ k.1 % 4 < x.levelCount).flatMap
                   fun k => cellRecordForm (x.records.get k) (s.alarms.get (cellAt q k)) } s))))

/-- GET_LINE: RANGE above 127, else OK with the line's record, its group's parking and reference (R42, R163). The
served cell of a line is an existing cell whose sources name it; a reference line, an unfitted line and a line that no
existing cell names have none (R3); the existing cells are those of R2. Where a disturbance has made two existing
cells name the line, the served cell is the one of lowest index (the model's choice, log 32). -/
def Obligations.GetLineReports : Prop :=
  (∀ (p : Port) (tag b : Byte) (s : State), p ≠ .trip → Asks .getLine p tag [b] s →
     (128 ≤ b.toNat → exec (.getLine p) s = .next (answered .getLine p tag [b] { code := .range, payload := [] } s)) ∧
     (∀ l : LineIx, l.1 = b.toNat →
       exec (.getLine p) s = .next (answered .getLine p tag [b]
         { code := .ok
           payload :=
             byte1 l.1 ++ byte1 (if l.1 % 16 = 0 then 1 else 0) ++
             byte1 (if (s.active.config.lines.get l).fitted then 1 else 0) ++
             (match servedCell s.active.config l with
               | none => byte1 0 ++ be16 0xFFFF
               | some i => byte1 1 ++ be16 i.1) ++
             readingForm (s.readings.get l) ++ byte1 (if (s.groups.get (groupOf l)).parked then 1 else 0) ++
             byte1 (refStatusCode (s.groups.get (groupOf l)).refStatus) ++
             (match (s.groups.get (groupOf l)).lastRef with
               | none => be32 0xFFFFFFFF ++ be32 0xFFFFFFFF
               | some r => be32 r.frequency.toNat ++ be32 (s.timebase.partTime - r.stamp).toNat) } s))) ∧
  (∀ (c : Configuration) (l : LineIx),
     (l.1 % 16 = 0 ∨ (c.lines.get l).fitted = false ∨
         (∀ i, cellExists c i = true → ∀ item ∈ (c.cells.get i).sources, item.line ≠ l.1) →
       servedCell c l = none) ∧
     (∀ i, l.1 % 16 ≠ 0 → (c.lines.get l).fitted = true → cellExists c i = true →
       (∃ item ∈ (c.cells.get i).sources, item.line = l.1) →
       (∀ j, j.1 < i.1 → cellExists c j = true → ∀ item ∈ (c.cells.get j).sources, item.line ≠ l.1) →
       servedCell c l = some i)) ∧
  (∀ (c : Configuration) (i : CellIx) (q : PassIx), q.1 = i.1 / 80 →
     (cellExists c i = true ↔
       i.1 % 80 / 4 < (c.passes.get q).tubeCount ∧ i.1 % 4 < (c.passes.get q).levelCount))

/-- GET_PASSINFO: RANGE above 7, NO_CELL for an unused pass, else OK with the pass's state, its limits in force and
its spall timer in whole minutes (R131, R163). -/
def Obligations.GetPassinfoReports : Prop :=
  ∀ (p : Port) (tag b : Byte) (s : State), Asks .getPassinfo p tag [b] s →
    (8 ≤ b.toNat →
      exec (.getPassinfo p) s = .next (answered .getPassinfo p tag [b] { code := .range, payload := [] } s)) ∧
    (∀ q : PassIx, q.1 = b.toNat → ∀ (x : PassService) (r : PassRecord),
      x = s.passes.get q → r = s.active.config.passes.get q →
      (r.tubeCount = 0 →
        exec (.getPassinfo p) s = .next (answered .getPassinfo p tag [b] { code := .noCell, payload := [] } s)) ∧
      (1 ≤ r.tubeCount →
        exec (.getPassinfo p) s = .next (answered .getPassinfo p tag [b]
          { code := .ok
            payload :=
              byte1 q.1 ++ byte1 (passStateCode x.state) ++
              (match x.target with | none => [0xFF#8] | some t => byte1 (passStateCode t)) ++
              (if x.state = .spall then be16 r.spallHigh ++ be16 r.spallHighHigh
                else be16 r.high ++ be16 r.highHigh) ++
              be16 r.deadband ++ be16 r.rateLimit ++ byte1 (if x.state = .online then 1 else 0) ++
              be16 (if x.state = .spall then (match x.spallTimer with | none => 0 | some t => t / 60000) else 0) ++
              byte1 (if x.overdueNotified then 1 else 0) ++
              be32 (match s.published.get q with | none => 0 | some y => y.sweep.toNat) } s)))

/-- GET_NOTICES answers OK with the port's notice set, bit n set for the notice of bit n, and empties it in one event;
the other ports keep theirs and the attention line is deasserted (R157, R158, R162). Setting a notice sets that one
flag of that one port and changes nothing else; the attention line is asserted while the set is not empty, outside a
restart sequence (R157, R160). -/
def Obligations.GetNoticesEmptiesSet : Prop :=
  (∀ (p : Port) (tag : Byte) (s : State), Asks .getNotices p tag [] s →
     ∀ (f : NoticeSet) (bit : Bool → Nat → Nat), f = (s.ports.get p).notices →
     (∀ b n, bit b n = if b then 2 ^ n else 0) →
     ∃ t, exec (.getNotices p) s = .next t ∧
       t = { s with ports := t.ports } ∧
       t.ports.get p =
         { s.ports.get p with
           slot := .answered { kind := 0x02#8, tag := tag, payload := [] }
             { code := .ok
               payload := be16 (bit f.alarmChange 0 + bit f.faultNew 1 + bit f.configApplied 2 + bit f.commitDropped 3 +
                 bit f.claimExpired 4 + bit f.storeDone 5 + bit f.storeFailed 6 + bit f.scanExpired 7 +
                 bit f.spallOverdue 8 + bit f.timebaseChange 9 + bit f.restarted 10) }
           notices := { alarmChange := false, faultNew := false, configApplied := false, commitDropped := false
                        claimExpired := false, storeDone := false, storeFailed := false, scanExpired := false
                        spallOverdue := false, timebaseChange := false, restarted := false } } ∧
       (∀ q, q ≠ p → t.ports.get q = s.ports.get q) ∧
       t.attention p = false) ∧
  (∀ (n : Notice) (p : Port) (s t : State) (f : NoticeSet), f = (s.ports.get p).notices → t = notify p n s →
     t = { s with ports := t.ports } ∧ (∀ q, q ≠ p → t.ports.get q = s.ports.get q) ∧
     t.ports.get p =
       { s.ports.get p with
         notices := (match n with
           | .alarmChange => { f with alarmChange := true }
           | .faultNew => { f with faultNew := true }
           | .configApplied => { f with configApplied := true }
           | .commitDropped => { f with commitDropped := true }
           | .claimExpired => { f with claimExpired := true }
           | .storeDone => { f with storeDone := true }
           | .storeFailed => { f with storeFailed := true }
           | .scanExpired => { f with scanExpired := true }
           | .spallOverdue => { f with spallOverdue := true }
           | .timebaseChange => { f with timebaseChange := true }
           | .restarted => { f with restarted := true }) }) ∧
  (∀ (p : Port) (s : State),
     s.attention p = true ↔ s.stage = .running ∧ (s.ports.get p).notices ≠ NoticeSet.empty)

/-- GET_FAULTS answers OK with the 15 records in source order; CLEAR_FAULTS empties the named record, or all for 0xFF,
and answers RANGE to any other value (R168, R169). -/
def Obligations.FaultBankReadAndCleared : Prop :=
  ∀ (p : Port) (tag b : Byte) (s : State),
    (Asks .getFaults p tag [] s →
      exec (.getFaults p) s = .next (answered .getFaults p tag []
        { code := .ok, payload := (List.finRange 15).flatMap fun n => faultForm (s.faults.get n) } s)) ∧
    (Asks .clearFaults .service tag [b] s →
      (∀ n : Fin 15, n.1 = b.toNat →
        exec (.clearFaults .service) s = .next (answered .clearFaults .service tag [b]
          { code := .ok, payload := [] } { s with faults := put s.faults n FaultRecord.empty })) ∧
      (b = 0xFF#8 →
        exec (.clearFaults .service) s = .next (answered .clearFaults .service tag [b]
          { code := .ok, payload := [] } { s with faults := Vector.replicate 15 FaultRecord.empty })) ∧
      (15 ≤ b.toNat → b ≠ 0xFF#8 →
        exec (.clearFaults .service) s = .next (answered .clearFaults .service tag [b]
          { code := .range, payload := [] } s)))

/-- Taking a fault (R166): an empty record is filled, another counts up to 255 and sets OTHER at a kind other than its
first, and OTHER once set stays. Two faults of one source on an empty record leave count 2 and the same OTHER in
either order, with the first kind, stamp and detail of the first; faults of different sources need no order. A fault
that finds the record empty outside a restart sequence also sets FAULT_NEW on every port (R167). -/
def Obligations.FaultBankTakesFault : Prop :=
  (∀ (src : FaultSource) (kind : FaultKind) (detail : Detail) (s : State) (r : FaultRecord),
     r = s.faults.get (sourceIx src) →
     (r.count = 0 →
       handFault src kind detail s =
         { s with
           faults := put s.faults (sourceIx src)
             { firstKind := some kind, firstStamp := s.timebase.partTime, firstDetail := detail, count := 1,
               other := false }
           ports := if s.stage = .running then
               s.ports.map fun u => { u with notices := { u.notices with faultNew := true } }
             else s.ports }) ∧
     (1 ≤ r.count → r.count ≤ 255 →
       handFault src kind detail s =
         { s with faults := put s.faults (sourceIx src)
                    { r with count := min (r.count + 1) 255, other := r.other || decide (r.firstKind ≠ some kind) } })) ∧
  (∀ (src : FaultSource) (k1 k2 : FaultKind) (d1 d2 : Detail) (s : State),
     (s.faults.get (sourceIx src)).count = 0 →
     ((handFault src k2 d2 (handFault src k1 d1 s)).faults.get (sourceIx src)).count = 2 ∧
     ((handFault src k2 d2 (handFault src k1 d1 s)).faults.get (sourceIx src)).other = decide (k1 ≠ k2) ∧
     ((handFault src k2 d2 (handFault src k1 d1 s)).faults.get (sourceIx src)).firstKind = some k1 ∧
     ((handFault src k2 d2 (handFault src k1 d1 s)).faults.get (sourceIx src)).firstStamp = s.timebase.partTime ∧
     ((handFault src k2 d2 (handFault src k1 d1 s)).faults.get (sourceIx src)).firstDetail = d1) ∧
  (∀ (src src' : FaultSource) (k k' : FaultKind) (d d' : Detail) (s : State), src ≠ src' →
     handFault src k d (handFault src' k' d' s) = handFault src' k' d' (handFault src k d s))

/-! ### The alarm unit -/

/-- ACKNOWLEDGE from the control or trip port: the tests of R108 in order; every refusal changes nothing but the slot;
a taken one moves RAISED to HELD and LINGERING to IDLE, clears restored, and makes the change of R107 (R108, R109). -/
def Obligations.AcknowledgeJudged : Prop :=
  ∀ (p : Port) (tag hi lo sev : Byte) (s : State), p ≠ .service → Asks .acknowledge p tag [hi, lo, sev] s →
    (sev ≠ 1#8 ∧ sev ≠ 2#8 ∧ sev ≠ 3#8 →
      exec (.acknowledge p) s = .next (answered .acknowledge p tag [hi, lo, sev] { code := .range, payload := [] } s)) ∧
    (sev = 3#8 ∧ p = .control →
      exec (.acknowledge p) s = .next (answered .acknowledge p tag [hi, lo, sev] { code := .denied, payload := [] } s)) ∧
    (sev = 1#8 ∨ sev = 2#8 ∨ sev = 3#8 ∧ p = .trip →
      ((∀ i : CellIx, i.1 = hi.toNat * 256 + lo.toNat → cellExists s.active.config i = false) →
        exec (.acknowledge p) s = .next
          (answered .acknowledge p tag [hi, lo, sev] { code := .noCell, payload := [] } s)) ∧
      (∀ i : CellIx, i.1 = hi.toNat * 256 + lo.toNat → cellExists s.active.config i = true →
        ∀ a : AlarmRecord, a = s.alarms.get i →
        (a.state = .idle ∨ a.state = .held →
          exec (.acknowledge p) s = .next
            (answered .acknowledge p tag [hi, lo, sev] { code := .nothingToAck, payload := alarmForm a } s)) ∧
        (a.state = .raised ∨ a.state = .lingering → severityCode a.severity ≠ sev.toNat →
          exec (.acknowledge p) s = .next
            (answered .acknowledge p tag [hi, lo, sev] { code := .ackMismatch, payload := alarmForm a } s)) ∧
        (a.state = .raised → severityCode a.severity = sev.toNat →
          exec (.acknowledge p) s = .next
            (answered .acknowledge p tag [hi, lo, sev]
              { code := .ok, payload := alarmForm { a with state := .held, restored := false } }
              (changeAlarm i { a with state := .held, restored := false } s))) ∧
        (a.state = .lingering → severityCode a.severity = sev.toNat →
          exec (.acknowledge p) s = .next
            (answered .acknowledge p tag [hi, lo, sev]
              { code := .ok, payload := alarmForm AlarmRecord.idleRecord }
              (changeAlarm i AlarmRecord.idleRecord s)))))

/-- A change of an alarm record does four things with it: the hot list is rebuilt, the line of the cell's pass follows
its HIGHHIGH records, the cell's retained entry is written with the hold check current, and ALARM_CHANGE is set on the
control and trip ports; a record that keeps every field makes none (R107, R113, R115, R116, R117). -/
def Obligations.AlarmChangeEffects : Prop :=
  ∀ (i : CellIx) (a : AlarmRecord) (s : State),
    (a = s.alarms.get i → changeAlarm i a s = s) ∧
    (a ≠ s.alarms.get i → ∀ alarms : Vector AlarmRecord 640, alarms = put s.alarms i a →
      changeAlarm i a s =
        { s with
          alarms := alarms
          hotList := (rankedCells alarms).take 16
          unlisted := (rankedCells alarms).length - 16
          passAlert := put s.passAlert (passOf i)
            ((List.finRange 640).any fun j => decide (passOf j = passOf i ∧ (alarms.get j).state ≠ .idle ∧
              (alarms.get j).severity = .highHigh))
          hold := sealHold { s.hold.contents with
            alarms := put s.hold.contents.alarms i
              (if a.state = .idle then none else some { severity := a.severity, peak := a.peak }) }
          ports :=
            { control := { s.ports.control with notices := { s.ports.control.notices with alarmChange := true } }
              trip := { s.ports.trip with notices := { s.ports.trip.notices with alarmChange := true } }
              service := s.ports.service } })

/-- The hot list of any records ranks exactly the cells outside IDLE, each once, by severity, HIGHHIGH first, then
state, then peak, higher first, then index (R112). A peak that is absent, as a disturbance of the retained table may
leave it, ranks as −32768, below every temperature (the model's choice, log 36). -/
def Obligations.HotListOrder : Prop :=
  (∀ alarms : Vector AlarmRecord 640,
     (rankedCells alarms).Nodup ∧
     (∀ i, i ∈ rankedCells alarms ↔ (alarms.get i).state ≠ .idle) ∧
     (rankedCells alarms).Pairwise fun i j =>
       severityRank (alarms.get j).severity < severityRank (alarms.get i).severity ∨
       severityRank (alarms.get i).severity = severityRank (alarms.get j).severity ∧
         ((alarms.get i).state ≠ .held ∧ (alarms.get j).state = .held ∨
           ((alarms.get i).state = .held ↔ (alarms.get j).state = .held) ∧
             (peakKey (alarms.get j).peak < peakKey (alarms.get i).peak ∨
               peakKey (alarms.get i).peak = peakKey (alarms.get j).peak ∧ i.1 < j.1))) ∧
  (severityRank .none < severityRank .rate ∧ severityRank .rate < severityRank .high ∧
     severityRank .high < severityRank .highHigh) ∧
  (∀ x : Int, peakKey (some x) = x) ∧ peakKey none = -32768

/-- The condition of a known hand-off: the highest raise test passed, held up by the hold test of the level before it
(R102, R103). The nine rows of R105 for a known hand-off, with the peak's rule, and the release of R106. A hand-off of
quality GOOD, DEGRADED or UNCERTAIN is known and moves the record by its condition; any other is unknown (R101). A
known one without an estimate, which R101 rules out, keeps the record (the model's choice, log 28). -/
def Obligations.AlarmRecordMoves : Prop :=
  (∀ (h : HandOff) (e : Int) (before : Severity),
     (∀ t : Severity,
       t = (if h.highHigh ≤ e then .highHigh
         else if h.high ≤ e then .high
         else if h.passState ≠ .spall ∧ h.rate.any (fun r => h.rateLimit ≤ r) then .rate
         else .none) →
       testSeverity h e = t ∧
       (severityRank before ≤ severityRank t → conditionSeverity h e before = t) ∧
       (severityRank t < severityRank before →
         conditionSeverity h e before =
           match before with
           | .highHigh => if h.highHigh - h.deadband ≤ e then .highHigh else t
           | .high => if h.high - h.deadband ≤ e then .high else t
           | .rate =>
             if h.passState ≠ .spall ∧ h.rate.any (fun r => 3 * h.rateLimit ≤ 4 * r) then .rate
             else t
           | .none => t))) ∧
  (∀ (k : Word) (e : Int) (c : Severity) (a : AlarmRecord) (st : PassState) (peak : Option Int),
     peak = some (match a.peak with | none => e | some q => max q e) →
     (a.state = .idle → c = .none → moveKnown k e c a = AlarmRecord.idleRecord) ∧
     (a.state = .idle → c ≠ .none →
       moveKnown k e c a = { state := .raised, severity := c, condition := c, peak := some e, raisedSweep := k,
                             restored := false }) ∧
     (a.state = .raised → c ≠ .none →
       moveKnown k e c a = { a with severity := higherSeverity a.severity c, condition := c, peak := peak }) ∧
     (a.state = .raised → c = .none →
       moveKnown k e c a = { a with state := .lingering, condition := .none, peak := peak }) ∧
     (a.state = .held → severityRank a.severity < severityRank c →
       moveKnown k e c a = { a with state := .raised, severity := c, condition := c, peak := peak, raisedSweep := k }) ∧
     (a.state = .held → c ≠ .none → severityRank c ≤ severityRank a.severity →
       moveKnown k e c a = { a with condition := c, peak := peak }) ∧
     (a.state = .held → c = .none → moveKnown k e c a = AlarmRecord.idleRecord) ∧
     (a.state = .lingering → c ≠ .none →
       moveKnown k e c a = { a with state := .raised, severity := higherSeverity a.severity c, condition := c,
                                    peak := peak,
                                    raisedSweep := if a.raisedSweep = 0#32 then k else a.raisedSweep }) ∧
     (a.state = .lingering → c = .none → moveKnown k e c a = { a with condition := .none, peak := peak }) ∧
     (a.state = .held → st = .offline → moveUnknown st a = AlarmRecord.idleRecord) ∧
     (a.state ≠ .held ∨ st ≠ .offline → moveUnknown st a = a)) ∧
  (∀ (h : HandOff) (a : AlarmRecord),
     (h.quality = .good ∨ h.quality = .degraded ∨ h.quality = .uncertain →
       (∀ e, h.estimate = some e →
         moveRecord h a = moveKnown h.sweep e (conditionSeverity h e a.condition) a) ∧
       (h.estimate = none → moveRecord h a = a)) ∧
     (h.quality = .stale ∨ h.quality = .noData ∨ h.quality = .checkFail ∨ h.quality = .offline →
       moveRecord h a = moveUnknown h.passState a))

/-! ### Pass service states -/

/-- SET_PASS_STATE from the control port: RANGE, NO_CELL, BAD_TRANSITION, SPALL_LIMIT in this order, each changing
nothing but the slot; an accepted target becomes the pending target and is written to the hold domain (R125, R126,
R132). An OFFLINE pass with pending ONLINE is judged as ONLINE, so that SPALL is accepted (the model's choice, log
24). The limit holds also for a request that restores the SPALL of a pass after an application has lowered it (the
model's choice, log 39), and an unused pass that a disturbed hold domain has left in SPALL counts (log 40). -/
def Obligations.SetPassStateJudged : Prop :=
  ∀ (tag n t : Byte) (s : State), Asks .setPassState .control tag [n, t] s →
    (8 ≤ n.toNat ∨ 3 ≤ t.toNat →
      exec (.setPassState .control) s = .next
        (answered .setPassState .control tag [n, t] { code := .range, payload := [] } s)) ∧
    (∀ (q : PassIx) (target : PassState), q.1 = n.toNat → passStateCode target = t.toNat →
      ((s.active.config.passes.get q).tubeCount = 0 →
        exec (.setPassState .control) s = .next
          (answered .setPassState .control tag [n, t] { code := .noCell, payload := [] } s)) ∧
      (1 ≤ (s.active.config.passes.get q).tubeCount →
        ∀ (x : PassService) (reference : PassState) (allowed : Bool) (count : Nat),
          x = s.passes.get q →
          reference = (match x.target with | none => x.state | some y => y) →
          allowed = (match reference with
            | .online => decide (target ≠ .online)
            | .spall => decide (target ≠ .spall)
            | .offline => decide (target = .online)) →
          count = ((List.finRange 8).filter fun y => decide (y ≠ q ∧
            ((s.passes.get y).state = .spall ∨ (s.passes.get y).target = some .spall))).length →
          (allowed = false →
            exec (.setPassState .control) s = .next (answered .setPassState .control tag [n, t]
              { code := .badTransition, payload := passStateBytes x } s)) ∧
          (allowed = true → target = .spall → s.active.config.globals.maxSpall ≤ count →
            exec (.setPassState .control) s = .next (answered .setPassState .control tag [n, t]
              { code := .spallLimit, payload := passStateBytes x } s)) ∧
          (allowed = true → target ≠ .spall ∨ count < s.active.config.globals.maxSpall →
            exec (.setPassState .control) s = .next (answered .setPassState .control tag [n, t]
              { code := .ok, payload := byte1 (passStateCode x.state) ++ byte1 (passStateCode target) }
              { s with
                passes := put s.passes q { x with target := some target }
                hold := sealHold { s.hold.contents with
                  passes := put s.hold.contents.passes q { state := x.state, target := some target } } }))))

/-- The spall timer that reaches the spall overdue sets SPALL_OVERDUE on the control port once in a stay, and changes
no pass state, fault or alarm (R130). -/
def Obligations.SpallOverdueOnce : Prop :=
  ∀ (q : PassIx) (ms : Nat) (s u : State) (t : Nat), s.stage = .running → u = elapse ms s →
    (u.passes.get q).state = .spall → (u.passes.get q).spallTimer = some t →
    (s.active.config.globals.spallOverdue * 60000 ≤ t → (u.passes.get q).overdueNotified = false →
      exec (.spallOverdue q ms) s = .next
        { u with
          passes := put u.passes q { u.passes.get q with overdueNotified := true }
          ports := { u.ports with control :=
            { u.ports.control with notices := { u.ports.control.notices with spallOverdue := true } } } }) ∧
    (t < s.active.config.globals.spallOverdue * 60000 ∨ (u.passes.get q).overdueNotified = true →
      exec (.spallOverdue q ms) s = .next u)

/-! ### Configuration editing -/

/-- CLAIM from an admitted port (R134). RELEASE: DENIED from the trip port, NOT_HOLDER from a port that is not the
holder, COMMIT_PENDING while a commit is pending, else the claim is freed with its staged copy and timer, and nothing
else changes (R137). -/
def Obligations.ClaimAndReleaseJudged : Prop :=
  (∀ (p q : Port) (tag : Byte) (s : State) (e : EditClaim), p ≠ .trip → Asks .claim p tag [] s →
     (s.edit = none →
       exec (.claim p) s = .next (answered .claim p tag []
         { code := .ok, payload := be16 s.active.generation.toNat }
         { s with edit := some { holder := p, staged := s.active.config, commitPending := false,
                                 timer := some s.timebase.partTime } })) ∧
     (s.edit = some e → e.holder = p →
       exec (.claim p) s = .next (answered .claim p tag []
         { code := .alreadyHeld, payload := byte1 (if e.commitPending then 1 else 0) } s)) ∧
     (s.edit = some e → e.holder = q → q ≠ p → q ≠ .trip →
       exec (.claim p) s = .next (answered .claim p tag []
         { code := .heldElsewhere
           payload := byte1 (if q = .control then 1 else 2) ++ byte1 (if e.commitPending then 1 else 0) } s))) ∧
  (∀ (p : Port) (tag : Byte) (s : State), Asks .release p tag [] s →
     (p = .trip → exec (.release p) s = .next (answered .release p tag [] { code := .denied, payload := [] } s)) ∧
     (p ≠ .trip → (∀ e, s.edit = some e → e.holder ≠ p) →
       exec (.release p) s = .next (answered .release p tag [] { code := .notHolder, payload := [] } s)) ∧
     (p ≠ .trip → ∀ e, s.edit = some e → e.holder = p →
       (e.commitPending = true →
         exec (.release p) s = .next (answered .release p tag [] { code := .commitPending, payload := [] } s)) ∧
       (e.commitPending = false →
         exec (.release p) s = .next
           (answered .release p tag [] { code := .ok, payload := [] } { s with edit := none }))))

/-- The holder tests of the STAGE requests, COMMIT and GET_CONFIG of the staged copy: NOT_HOLDER, and COMMIT_PENDING
for all but GET_CONFIG; they change nothing but the slot (R138). -/
def Obligations.HolderTestsRefuse : Prop :=
  ∀ (k : RequestKind) (p : Port) (tag : Byte) (payload : List Byte) (s : State), p ≠ .trip → Asks k p tag payload s →
    k = .stageLine ∧ payload.length = 6 ∨ k = .stageCell ∨ k = .stagePass ∧ payload.length = 15 ∨
      k = .stageGlobal ∧ payload.length = 43 ∨ k = .commit ∧ payload = [] ∨
      k = .getConfig ∧ (∃ kind hi lo, payload = [1#8, kind, hi, lo]) →
    ((∀ e, s.edit = some e → e.holder ≠ p) →
      exec (requestCommand k p) s = .next (answered k p tag payload { code := .notHolder, payload := [] } s)) ∧
    (k ≠ .getConfig → (∃ e, s.edit = some e ∧ e.holder = p ∧ e.commitPending = true) →
      exec (requestCommand k p) s = .next (answered k p tag payload { code := .commitPending, payload := [] } s))

/-- A STAGE request from the holder with no commit pending: a payload that is the form of a record and index within
their ranges replaces that record of the staged copy whole; any other is answered RANGE; the timer restarts either way
(R135, R138 to R141). -/
def Obligations.StageWritesStagedCopy : Prop :=
  ∀ (k : RequestKind) (p : Port) (tag : Byte) (payload : List Byte) (s : State) (e : EditClaim),
    p ≠ .trip → Asks k p tag payload s → s.edit = some e → e.holder = p → e.commitPending = false →
    k = .stageLine ∧ payload.length = 6 ∨ k = .stageCell ∨ k = .stagePass ∧ payload.length = 15 ∨
      k = .stageGlobal ∧ payload.length = 43 →
    (∀ c, StagesRecord k payload e.staged c →
      exec (requestCommand k p) s = .next (answered k p tag payload { code := .ok, payload := [] }
        { s with edit := some { e with staged := c, timer := some s.timebase.partTime } })) ∧
    ((∀ c, ¬ StagesRecord k payload e.staged c) →
      exec (requestCommand k p) s = .next (answered k p tag payload { code := .range, payload := [] }
        { s with edit := some { e with timer := some s.timebase.partTime } }))

/-- GET_CONFIG: the active copy from any admitted port, unchanged, with a cell entry's stored code; the staged copy
from its holder, with the code absent as a flag of 0 and a code of 0x00, its timer restarted unless a commit is
pending; RANGE outside the kinds and indices (R135, R142, R164). A copy byte above 1 is RANGE and changes nothing
else, by deduction (log 27). -/
def Obligations.GetConfigReports : Prop :=
  ∀ (p : Port) (tag copy kind hi lo : Byte) (s : State) (e : EditClaim) (n : Nat), p ≠ .trip →
    Asks .getConfig p tag [copy, kind, hi, lo] s → n = hi.toNat * 256 + lo.toNat →
    (2 ≤ copy.toNat →
      exec (.getConfig p) s = .next
        (answered .getConfig p tag [copy, kind, hi, lo] { code := .range, payload := [] } s)) ∧
    ∀ (c : Configuration) (form : Option (List Byte)),
      (kind = 0#8 → (∀ l : LineIx, l.1 = n → form = some (lineForm (c.lines.get l))) ∧ (128 ≤ n → form = none)) →
      (kind = 1#8 → (∀ i : CellIx, i.1 = n → form = some (cellForm n (c.cells.get i) ++
          (if copy = 0#8 then [1#8, s.active.codes.get i] else [0#8, 0x00#8]))) ∧
        (640 ≤ n → form = none)) →
      (kind = 2#8 → (∀ q : PassIx, q.1 = n → form = some (passForm (c.passes.get q))) ∧ (8 ≤ n → form = none)) →
      (kind = 3#8 → form = if n = 0 then some (globalForm c.globals) else none) →
      (4 ≤ kind.toNat → form = none) →
      ∀ reply : Reply,
        reply = (match form with
          | none => { code := .range, payload := [] }
          | some bytes => { code := .ok, payload := be16 s.active.generation.toNat ++ bytes }) →
        (copy = 0#8 → c = s.active.config →
          exec (.getConfig p) s = .next (answered .getConfig p tag [copy, kind, hi, lo] reply s)) ∧
        (copy = 1#8 → s.edit = some e → e.holder = p → c = e.staged →
          exec (.getConfig p) s = .next (answered .getConfig p tag [copy, kind, hi, lo] reply
            { s with
              edit := some { e with timer := if e.commitPending then e.timer else some s.timebase.partTime } }))

/-- COMMIT from the holder with none pending: the report of the whole-configuration checks, else CELL_ALARMED for the
first cell that would vanish while not IDLE, as REJECTED with the timer restarted; else ACCEPTED, the commit pending
and the timer stopped (R143). The whole-configuration checks report the first failing test of a fixed scan: the global
record, the passes, the cells, the lines, each in ascending order, and in each record its range tests first (R14 to
R17). -/
def Obligations.CommitJudged : Prop :=
  (∀ (p : Port) (tag : Byte) (s : State) (e : EditClaim), p ≠ .trip → Asks .commit p tag [] s →
     s.edit = some e → e.holder = p → e.commitPending = false →
     (∀ r, checkConfiguration e.staged = some r →
       exec (.commit p) s = .next (answered .commit p tag []
         { code := .rejected
           payload := byte1 (reasonCode r.reason) ++ (match r.subject with | none => be16 0xFFFF | some n => be16 n) }
         { s with edit := some { e with timer := some s.timebase.partTime } })) ∧
     (checkConfiguration e.staged = none →
       (∀ i : CellIx,
         (cellExists s.active.config i = true ∧ cellExists e.staged i = false ∧ (s.alarms.get i).state ≠ .idle) →
         (∀ j : CellIx, j.1 < i.1 → cellExists s.active.config j = true → cellExists e.staged j = false →
           (s.alarms.get j).state = .idle) →
         exec (.commit p) s = .next (answered .commit p tag [] { code := .rejected, payload := byte1 10 ++ be16 i.1 }
           { s with edit := some { e with timer := some s.timebase.partTime } })) ∧
       ((∀ j : CellIx, cellExists s.active.config j = true → cellExists e.staged j = false →
           (s.alarms.get j).state = .idle) →
         exec (.commit p) s = .next (answered .commit p tag [] { code := .accepted, payload := [] }
           { s with edit := some { e with commitPending := true, timer := none } })))) ∧
  (∀ (c : Configuration) (global : Option FailureReport) (pass : PassIx → Option FailureReport)
     (cell : CellIx → Option FailureReport) (line : LineIx → Option FailureReport),
     (∀ r, r = c.globals → global =
       if 250 ≤ r.sweepPeriod ∧ r.sweepPeriod ≤ 10000 ∧ 1 ≤ r.staleLimit ∧ r.staleLimit ≤ 60 ∧
           1 ≤ r.staleHold ∧ r.staleHold ≤ 255 ∧ 10 ≤ r.disagreement ∧ r.disagreement ≤ 2000 ∧
           10 ≤ r.scanMargin ∧ r.scanMargin ≤ 2000 ∧ 60 ≤ r.scanValidAge ∧ r.scanValidAge ≤ 86400 ∧
           4 ≤ r.rateWindow ∧ r.rateWindow ≤ 120 ∧ 1 ≤ r.maxSpall ∧ r.maxSpall ≤ 2 ∧
           10 ≤ r.spallOverdue ∧ r.spallOverdue ≤ 1440 ∧ 1 ≤ r.referenceAge ∧ r.referenceAge ≤ 60 ∧
           (∀ g : GroupIx, (r.groups.get g).window ∈ [16, 32, 64, 128, 256] ∧ 1 ≤ (r.groups.get g).interleave ∧
             (r.groups.get g).interleave ≤ 8)
       then none else some { reason := .range, subject := none }) →
     (∀ p r, r = c.passes.get p → pass p =
       if r.tubeCount ≤ 20 ∧ 1 ≤ r.levelCount ∧ r.levelCount ≤ 4 ∧ r.high ≤ 13500 ∧ r.highHigh ≤ 13500 ∧
           r.spallHigh ≤ 13500 ∧ r.spallHighHigh ≤ 13500 ∧ 5 ≤ r.deadband ∧ r.deadband ≤ 500 ∧
           1 ≤ r.rateLimit ∧ r.rateLimit ≤ 5000 then
         (if r.high < r.highHigh ∧ r.spallHigh < r.spallHighHigh then none
         else some { reason := .limitOrder, subject := some p.1 })
       else some { reason := .range, subject := some p.1 }) →
     (∀ i e, e = c.cells.get i → cell i =
       if ¬ (e.sources.length ≤ 3 ∧ (∀ x ∈ e.sources, x.line ≤ 127 ∧ -500 ≤ x.trim ∧ x.trim ≤ 500) ∧
           (e.sources.map fun x => x.line).Nodup ∧
           e.fallback.all (fun f => decide (f.cell ≤ 639 ∧ -1000 ≤ f.offset ∧ f.offset ≤ 1000)) = true) then
         some { reason := .range, subject := some i.1 }
       else if cellExists c i = false then
         (if e.sources = [] ∧ e.fallback = none then none else some { reason := .cellOutside, subject := some i.1 })
       else match e.sources.find? (fun x => decide (x.line % 16 = 0 ∨
           ∀ l : LineIx, l.1 = x.line → (c.lines.get l).fitted = false)) with
         | some x => some { reason := if x.line % 16 = 0 then .lineReference else .lineUnfitted, subject := some i.1 }
         | none => match e.fallback with
           | none => none
           | some f =>
             if f.cell = i.1 then some { reason := .fallbackSelf, subject := some i.1 }
             else if f.cell / 80 ≠ i.1 / 80 then some { reason := .fallbackOtherPass, subject := some i.1 }
             else if ∃ j : CellIx, j.1 = f.cell ∧ cellExists c j = true then none
             else some { reason := .fallbackMissing, subject := some i.1 }) →
     (∀ l r, r = c.lines.get l → line l =
       if ¬ (-20000 ≤ r.zeroTrim ∧ r.zeroTrim ≤ 20000 ∧ 4000 ≤ r.span ∧ r.span ≤ 6000) then
         some { reason := .range, subject := some l.1 }
       else if 2 ≤ ((List.finRange 640).filter fun i => (c.cells.get i).sources.any fun x => decide (x.line = l.1)).length
       then some { reason := .lineReused, subject := some l.1 }
       else none) →
     checkConfiguration c =
       (global :: ((List.finRange 8).map pass ++ (List.finRange 640).map cell ++ (List.finRange 128).map line)).findSome?
         fun r => r)

/-- The two expiries on part time: a claim whose timer has run 300000 ms is freed and its holder told CLAIM_EXPIRED
(R135); a batch idle for 30000 ms ends with SCAN_EXPIRED handed to SCAN and set on its owner (R96); neither fires
before that. A reading record and a scan-table entry whose age reaches 2^31 ms are retired, and not before (R38, R97).
The time that passes before an expiry is looked at is the command's operand (log 1). Without a claim, a running timer,
a batch, a stored reading or an entry, and before its time, an expiry changes nothing but that time (log 2); it may
come later than its first millisecond (log 3). What setting a notice on a port does is stated in GetNoticesEmptiesSet. -/
def Obligations.OldThingsExpire : Prop :=
  (∀ (ms : Nat) (s u : State), s.stage = .running → u = elapse ms s →
     (∀ e t, u.edit = some e → e.timer = some t →
       (300000 ≤ (u.timebase.partTime - t).toNat →
         exec (.claimExpiry ms) s = .next (notify e.holder .claimExpired { u with edit := none })) ∧
       ((u.timebase.partTime - t).toNat < 300000 → exec (.claimExpiry ms) s = .next u)) ∧
     (∀ b, u.batch = some b →
       (30000 ≤ (u.timebase.partTime - b.lastActivity).toNat →
         exec (.batchExpiry ms) s = .next
           (notify b.owner .scanExpired (handFault .scan .scanExpired .none { u with batch := none }))) ∧
       ((u.timebase.partTime - b.lastActivity).toNat < 30000 → exec (.batchExpiry ms) s = .next u)) ∧
     ((∀ e t, u.edit = some e → e.timer ≠ some t) → exec (.claimExpiry ms) s = .next u) ∧
     (u.batch = none → exec (.batchExpiry ms) s = .next u)) ∧
  (∀ (l : LineIx) (i : CellIx) (ms : Nat) (s u : State), s.stage = .running → u = elapse ms s →
     ((u.readings.get l).status ≠ .none →
       (2147483648 ≤ (u.timebase.partTime - (u.readings.get l).stamp).toNat →
         exec (.readingRetire l ms) s = .next
           { u with readings := (put u.readings l
               { status := .none, temperature := none, frequency := none, quality := none, corrected := false,
                 epoch := 0#16, stamp := 0#32 }) }) ∧
       ((u.timebase.partTime - (u.readings.get l).stamp).toNat < 2147483648 →
         exec (.readingRetire l ms) s = .next u)) ∧
     ((u.readings.get l).status = .none → exec (.readingRetire l ms) s = .next u) ∧
     (u.scanTable.get i = none → exec (.scanEntryRetire i ms) s = .next u) ∧
     (∀ e, u.scanTable.get i = some e →
       (2147483648 ≤ (u.timebase.partTime - e.stamp).toNat →
         exec (.scanEntryRetire i ms) s = .next { u with scanTable := put u.scanTable i none }) ∧
       ((u.timebase.partTime - e.stamp).toNat < 2147483648 → exec (.scanEntryRetire i ms) s = .next u)))

/-! ### The scan unit -/

/-- SCAN_OPEN: with no batch open one opens, its buffer empty, its last activity now, no rejection logged; with a
batch open, BATCH_OPEN, and the batch left as it stands (R91). It carries no payload. -/
def Obligations.ScanOpenOpensBatch : Prop :=
  ∀ (tag : Byte) (payload : List Byte) (s : State), Asks .scanOpen .service tag payload s →
    (payload ≠ [] →
      exec (.scanOpen .service) s = .next
        (answered .scanOpen .service tag payload { code := .range, payload := [] } s)) ∧
    (payload = [] → s.batch = none →
      exec (.scanOpen .service) s = .next (answered .scanOpen .service tag [] { code := .ok, payload := [] }
        { s with batch := some { owner := .service, buffer := [], lastActivity := s.timebase.partTime,
                                 rejectionLogged := false } })) ∧
    (∀ b, payload = [] → s.batch = some b →
      exec (.scanOpen .service) s = .next (answered .scanOpen .service tag [] { code := .batchOpen, payload := [] } s))

/-- SCAN_DROP: NO_BATCH with none open and nothing changed; else the batch ends, its buffer discarded, answered OK
with the count of samples discarded; the scan table, the fault bank and the notices stay (R95). -/
def Obligations.ScanDropDiscardsBatch : Prop :=
  ∀ (tag : Byte) (payload : List Byte) (s : State), Asks .scanDrop .service tag payload s →
    (payload ≠ [] →
      exec (.scanDrop .service) s = .next (answered .scanDrop .service tag payload { code := .range, payload := [] } s)) ∧
    (payload = [] → s.batch = none →
      exec (.scanDrop .service) s = .next (answered .scanDrop .service tag [] { code := .noBatch, payload := [] } s)) ∧
    (∀ b, payload = [] → s.batch = some b →
      exec (.scanDrop .service) s = .next (answered .scanDrop .service tag []
        { code := .ok, payload := be16 b.buffer.length } { s with batch := none }))

/-- SCAN_CLOSE: NO_BATCH with none open; else every cell with a sample in the buffer has its entry replaced, stamped
now, the others keep theirs, the batch ends, answered OK with the count of samples (R94). -/
def Obligations.ScanCloseAppliesBuffer : Prop :=
  ∀ (tag : Byte) (s : State), Asks .scanClose .service tag [] s →
    (s.batch = none →
      exec (.scanClose .service) s = .next (answered .scanClose .service tag [] { code := .noBatch, payload := [] } s)) ∧
    (∀ b, s.batch = some b → (b.buffer.map fun x => x.cell).Nodup →
      ∃ table : Vector (Option ScanEntry) 640,
        (∀ x, x ∈ b.buffer →
          table.get x.cell = some { temperature := x.temperature, stamp := s.timebase.partTime }) ∧
        (∀ i, (∀ x, x ∈ b.buffer → x.cell ≠ i) → table.get i = s.scanTable.get i) ∧
        exec (.scanClose .service) s = .next (answered .scanClose .service tag []
          { code := .ok, payload := be16 b.buffer.length } { s with batch := none, scanTable := table }))

/-- The outcome of one sample of a SCAN_PUT: rejected for a cell that does not exist or a temperature outside −500 to
13500, the first rejection of a batch logged with the cell index as detail; else replaced in place; else refused at
256 samples; else accepted (R92, R93). SCAN_PUT: NO_BATCH with none open; RANGE unless the payload is a count of 1 to
12 and that many samples; else the samples are handled in turn, the last activity is now, a logged rejection hands
SAMPLE_REJECTED, and the answer carries the four counts, BATCH_FULL when any sample was refused (R92, R93). A sample
put into a buffer that holds its cells in ascending order, one sample per cell, stands there in place of any sample of
its cell, and every other sample stays (R90, R92). -/
def Obligations.ScanPutJudged : Prop :=
  (∀ (c : Configuration) (run : PutRun) (n : Nat) (temp : Int),
     (temp < -500 ∨ 13500 < temp ∨ (∀ i : CellIx, i.1 = n → cellExists c i = false) →
       handleSample c run (n, temp) =
         { batch := { run.batch with rejectionLogged := true }
           tally := { run.tally with rejected := run.tally.rejected + 1 }
           logged := if run.batch.rejectionLogged then run.logged
             else some (match cellIx? n with | some i => .cell i | none => .none) }) ∧
     (∀ i : CellIx, i.1 = n → cellExists c i = true → -500 ≤ temp → temp ≤ 13500 →
       ((∃ x, x ∈ run.batch.buffer ∧ x.cell = i) →
         handleSample c run (n, temp) =
           { run with
             batch := { run.batch with buffer := putSample { cell := i, temperature := temp } run.batch.buffer }
             tally := { run.tally with replaced := run.tally.replaced + 1 } }) ∧
       ((∀ x, x ∈ run.batch.buffer → x.cell ≠ i) → 256 ≤ run.batch.buffer.length →
         handleSample c run (n, temp) =
           { run with tally := { run.tally with refused := run.tally.refused + 1 } }) ∧
       ((∀ x, x ∈ run.batch.buffer → x.cell ≠ i) → run.batch.buffer.length < 256 →
         handleSample c run (n, temp) =
           { run with
             batch := { run.batch with buffer := putSample { cell := i, temperature := temp } run.batch.buffer }
             tally := { run.tally with accepted := run.tally.accepted + 1 } }))) ∧
  (∀ (tag : Byte) (payload : List Byte) (s : State), Asks .scanPut .service tag payload s →
     (s.batch = none →
       exec (.scanPut .service) s = .next
         (answered .scanPut .service tag payload { code := .noBatch, payload := [] } s)) ∧
     (∀ b, s.batch = some b →
       ((∀ xs : List (Nat × Byte × Byte), 1 ≤ xs.length → xs.length ≤ 12 → (∀ x ∈ xs, x.1 < 65536) →
           payload ≠ BitVec.ofNat 8 xs.length :: xs.flatMap fun x => be16 x.1 ++ [x.2.1, x.2.2]) →
         exec (.scanPut .service) s = .next
           (answered .scanPut .service tag payload { code := .range, payload := [] } s)) ∧
       (∀ (xs : List (Nat × Byte × Byte)) (run : PutRun), 1 ≤ xs.length → xs.length ≤ 12 → (∀ x ∈ xs, x.1 < 65536) →
         payload = (BitVec.ofNat 8 xs.length :: xs.flatMap fun x => be16 x.1 ++ [x.2.1, x.2.2]) →
         run = (xs.map fun x => (x.1, readSigned16 x.2.1 x.2.2)).foldl (handleSample s.active.config)
           { batch := b, tally := { accepted := 0, replaced := 0, rejected := 0, refused := 0 }, logged := none } →
         exec (.scanPut .service) s = .next
           (answered .scanPut .service tag payload
             { code := if run.tally.refused = 0 then .ok else .batchFull
               payload := byte1 run.tally.accepted ++ byte1 run.tally.replaced ++ byte1 run.tally.rejected ++
                 byte1 run.tally.refused }
             (match run.logged with
               | none => { s with batch := some { run.batch with lastActivity := s.timebase.partTime } }
               | some d => handFault .scan .sampleRejected d
                   { s with batch := some { run.batch with lastActivity := s.timebase.partTime } }))))) ∧
  (∀ (x : Sample) (buffer : List Sample), buffer.Pairwise (fun a b => a.cell.1 < b.cell.1) →
     (putSample x buffer).Pairwise (fun a b => a.cell.1 < b.cell.1) ∧
     (∀ y, y ∈ putSample x buffer ↔ y = x ∨ y ∈ buffer ∧ y.cell ≠ x.cell) ∧
     ((∃ y, y ∈ buffer ∧ y.cell = x.cell) → (putSample x buffer).length = buffer.length) ∧
     ((∀ y, y ∈ buffer → y.cell ≠ x.cell) → (putSample x buffer).length = buffer.length + 1))

/-! ### The store and the restart request -/

/-- STORE_IMAGE: NO_FLASH with the strap set, else STORE_BUSY while a store is in flight or a restart is pending, else
OK and a store begins in ERASE from the active configuration and generation, for the requesting port (R177). The
erasure is made at the store's start (log 13), and NO_FLASH is tested first (log 16). -/
def Obligations.StoreImageBegins : Prop :=
  ∀ (p : Port) (tag : Byte) (s : State), p ≠ .trip → Asks .storeImage p tag [] s →
    (s.strap = true →
      exec (.storeImage p) s = .next (answered .storeImage p tag [] { code := .noFlash, payload := [] } s)) ∧
    (s.strap = false → s.store ≠ none ∨ s.restartPending ≠ none →
      exec (.storeImage p) s = .next (answered .storeImage p tag [] { code := .storeBusy, payload := [] } s)) ∧
    (s.strap = false → s.store = none → s.restartPending = none →
      exec (.storeImage p) s = .next (answered .storeImage p tag [] { code := .ok, payload := [] }
        { s with
          store := some { port := p, stage := .erase, config := s.active.config, generation := s.active.generation }
          flash := if s.flash.ident = .part then { s.flash with region := [] } else s.flash }))

/-- The events of a store in flight: the end of ERASE; the end of WRITE, with the image but its marker in a present
flash; the completion, which writes the marker and tells the requesting port when the region reads back as written,
and else hands STORE_VERIFY and tells it STORE_FAILED. Out of its stage an event changes nothing (R177, R178; log 2).
What the flash misreads is the event's operand (log 12). What setting a notice on a port does is stated in
GetNoticesEmptiesSet. That WRITE programs the flash at its end is log 41. -/
def Obligations.StoreRunsToItsEnd : Prop :=
  ∀ (s : State) (misread : List (Nat × Byte)),
    (s.store = none →
      exec .eraseEnd s = .next s ∧ exec (.writeEnd misread) s = .next s ∧ exec .storeCompletion s = .next s) ∧
    (∀ x, s.store = some x →
      (x.stage = .erase →
        exec .eraseEnd s = .next { s with store := some { x with stage := .write } } ∧
        exec (.writeEnd misread) s = .next s ∧ exec .storeCompletion s = .next s) ∧
      (x.stage = .write →
        exec .eraseEnd s = .next s ∧ exec .storeCompletion s = .next s ∧
        exec (.writeEnd misread) s = .next
          { s with
            store := some { x with stage := .verify }
            flash := if s.flash.ident = .part then
                { s.flash with region :=
                    (misread.foldl (fun m c => writeByte m c.1 c.2)
                      (writeBytes s.flash.region 4 ((imageBytes x.config x.generation).drop 4))) }
              else s.flash }) ∧
      (x.stage = .verify → ∀ written : List Byte, written = (imageBytes x.config x.generation).drop 4 →
        exec .eraseEnd s = .next s ∧ exec (.writeEnd misread) s = .next s ∧
        (s.flash.ident = .part → (∀ k, k < written.length → written[k]? = some (readByte s.flash.region (4 + k))) →
          exec .storeCompletion s = .next (notify x.port .storeDone
            { s with store := none
                     flash := { s.flash with region := writeBytes s.flash.region 0 [0x54#8, 0x56#8, 0x32#8, 0x36#8] } })) ∧
        (s.flash.ident ≠ .part ∨
            (∃ k, k < written.length ∧ written[k]? ≠ some (readByte s.flash.region (4 + k))) →
          exec .storeCompletion s = .next (notify x.port .storeFailed
            (handFault .store .storeVerify .none { s with store := none })))))

/-- RESTART: STORE_BUSY while a store is in flight; else OK, and a restart becomes pending from the part time of the
answer, or stays pending as it stands (R172). A pending restart begins 100 ms of part time after its answer, and not
before, or at the poll of the service port that shifts out the whole response of a RESTART answered OK; it starts as a
warm restart of cause REQUEST, its sequence passing RESET_HELD at once (R156, R172, R173). A poll that delivers the OK
of a second RESTART begins the restart pending since the first (the model's choice, log 37). The sequence starts with
the values of RestartCausesBeginSequence and the cause REQUEST, and goes on as HoldCheckDecidesWarm says of the end of
RESET_HELD: to RUNNING, or, where the hold check fails, as cold with the cause HOLD_LOST. -/
def Obligations.RestartPendsAndBegins : Prop :=
  (∀ (tag : Byte) (s : State), Asks .restart .service tag [] s →
     (s.store ≠ none →
       exec (.restart .service) s = .next (answered .restart .service tag [] { code := .storeBusy, payload := [] } s)) ∧
     (s.store = none → s.restartPending = none →
       exec (.restart .service) s = .next (answered .restart .service tag [] { code := .ok, payload := [] }
         { s with restartPending := some s.timebase.partTime })) ∧
     (∀ t, s.store = none → s.restartPending = some t →
       exec (.restart .service) s = .next (answered .restart .service tag [] { code := .ok, payload := [] } s))) ∧
  (∀ (s u : State) (ms : Nat) (t : Word), s.stage = .running → u = elapse ms s → s.restartPending = some t →
     (100 ≤ (u.timebase.partTime - t).toNat → exec (.restartPendingExpiry ms) s = .next (beginWarm .request u)) ∧
     ((u.timebase.partTime - t).toNat < 100 → exec (.restartPendingExpiry ms) s = .next u) ∧
     (∀ (r : Request) (n : Nat) (frame : List Byte),
       s.ports.service.slot = .answered r { code := .ok, payload := [] } → r.kind = 0x61#8 →
       frame = responseFrame s.ports.service → 7 ≤ n →
       exec (.poll .service n false) s = .next (beginWarm .request
         { s with dataOut := { s.dataOut with service := (frame ++ List.replicate n 0#8).take n } })) ∧
     (s.pins.resetLow = false → s.pins.coreLow = false → s.pins.holdSupply = true →
       s.hold.check = holdCrc s.hold.contents →
       (beginWarm .request s).stage = .running ∧ (beginWarm .request s).restartPending = none ∧
       (beginWarm .request s).hold.contents.lastCause = .request)) ∧
  (∀ s r : State,
     r = { s with
           stage := .resetHeld, cause := .request, restartPending := none, strap := s.pins.noflash
           timebase := { state := .holdover, breakSeen := false, epoch := 0#16, partTime := 0#32, proving := none,
                         lock := none, retry := none, gapArmed := false }
           groups := Vector.replicate 8 { parked := true, scanList := [], cursor := 0, measurement := none,
                                          applied := false, refStatus := .none, lastRef := none }
           readings := Vector.replicate 128 { status := .none, temperature := none, frequency := none, quality := none,
                                              corrected := false, epoch := 0#16, stamp := 0#32 }
           edit := none, completed := 0#32, sweep := none, published := Vector.replicate 8 none
           working := Vector.replicate 640 { lastEstimate := none, staleCounter := 0, ageCounter := 255, rateRef := none,
                                             rate := none, mismatchReported := false }
           batch := none, scanTable := Vector.replicate 640 none
           ports :=
             { control := { slot := .empty, overrun := false, frameError := false, notices := NoticeSet.empty }
               trip := { slot := .empty, overrun := false, frameError := false, notices := NoticeSet.empty }
               service := { slot := .empty, overrun := false, frameError := false, notices := NoticeSet.empty } }
           faults := Vector.replicate 15 FaultRecord.empty, store := none } →
     (s.pins.resetLow = true ∨ s.pins.coreLow = true → beginWarm .request s = r) ∧
     (s.pins.resetLow = false → s.pins.coreLow = false →
       exec (.resetHeldEnd .resetPin) r = .next (beginWarm .request s) ∧
       (s.pins.holdSupply = false ∨ s.hold.check ≠ holdCrc s.hold.contents →
         (beginWarm .request s).stage = .imageLoad ∧ (beginWarm .request s).cause = .holdLost ∧
         (beginWarm .request s).restartPending = none)))

/-! ### The capture groups -/

/-- The scan list of a group under a configuration (R23, R24, R41): its used skin slots in ascending order; with the
reference fitted, the reference first and again after every I-th skin line but the last. A group with no used line is
parked; any other starts the first entry's measurement, and keeps its reference only where it was unparked and the
reference is fitted. An interleave of 0, as a disturbance may leave it, gives the leading reference alone (the model's
choice, log 38). -/
def Obligations.ScanListBuilt : Prop :=
  ∀ (c : Configuration) (g : GroupIx) (x : CaptureGroup) (slots : List SlotIx) (n : Nat),
    n = (c.globals.groups.get g).interleave →
    slots.Pairwise (fun a b => a.1 < b.1) →
    (∀ s, s ∈ slots ↔ s ≠ 0 ∧ (c.lines.get (lineOf g s)).fitted = true ∧
      ∃ i, cellExists c i = true ∧ ∃ item ∈ (c.cells.get i).sources, item.line = (lineOf g s).1) →
    (slots = [] → takeUp c g x =
      { parked := true, scanList := [], cursor := 0, measurement := none, applied := false, refStatus := .none,
        lastRef := none }) ∧
    (slots ≠ [] → ∃ first rest,
      takeUp c g x =
        { parked := false, scanList := first :: rest, cursor := 0
          measurement := some { slot := first, window := (c.globals.groups.get g).window, stage := .settle,
                                aborts := 0, timer := 0 }
          applied := false
          refStatus := if x.parked = false ∧ (c.lines.get (lineOf g 0)).fitted = true then x.refStatus else .none
          lastRef := if x.parked = false ∧ (c.lines.get (lineOf g 0)).fitted = true then x.lastRef else none } ∧
      ((c.lines.get (lineOf g 0)).fitted = false → first :: rest = slots) ∧
      ((c.lines.get (lineOf g 0)).fitted = true →
        first = 0 ∧ (n = 0 → rest = slots) ∧
        (1 ≤ n →
          (first :: rest).length = slots.length + 1 + (slots.length - 1) / n ∧
          (∀ k, k < slots.length → (first :: rest)[k + 1 + k / n]? = slots[k]?) ∧
          (∀ j, j * n < slots.length → (first :: rest)[j * (n + 1)]? = some 0))))

/-- A measurement passes through its stages: SETTLE ends after 1 ms, the first rising edge of ARM records the epoch
and the counting clock, each closed cycle adds its periods, the N-th ends COUNT, and the falling edge of WIDTH fixes
the high time. Nothing else of the machine changes (R26, R27, R28). The bounds on periods are the model's (log 6). -/
def Obligations.MeasurementStagesAdvance : Prop :=
  ∀ (g : GroupIx) (ms n : Nat) (s u : State) (x y : CaptureGroup) (m k : Measurement),
    s.stage = .running → u = elapse ms s → x = u.groups.get g → y = s.groups.get g →
    x.measurement = some m → y.measurement = some k →
    (m.stage = .settle → 1 ≤ m.timer →
      exec (.settleEnd g ms) s = .next
        { u with groups := put u.groups g { x with measurement := some { m with stage := .arm, timer := 0 } } }) ∧
    (k.stage = .arm → k.timer ≤ 10 →
      exec (.armEdge g) s = .next
        { s with groups := put s.groups g { y with measurement := (some
            { k with
              stage := .count s.timebase.epoch (if s.timebase.state = .locked then .mhz64 else .mhz8) 0 0
              timer := 0 }) } }) ∧
    (∀ epoch clock closed total, k.stage = .count epoch clock closed total → k.timer ≤ 10 → 2 ≤ n →
      n ≤ (if s.timebase.epoch = epoch ∧ clock = .mhz8 then 80000 else 640000) →
      (closed + 1 < k.window →
        exec (.cycleClose g n) s = .next
          { s with groups := put s.groups g { y with measurement := (some
              { k with stage := .count epoch clock (closed + 1) (total + n), timer := 0 }) } }) ∧
      (closed + 1 = k.window →
        exec (.countEnd g n) s = .next
          { s with groups := put s.groups g { y with measurement := (some
              { k with stage := .width epoch clock (total + n) none, timer := 0 }) } })) ∧
    (∀ epoch clock total, k.stage = .width epoch clock total none → k.timer ≤ 10 → 1 ≤ n →
      n ≤ (if s.timebase.epoch = epoch ∧ clock = .mhz8 then 80000 else 640000) →
      exec (.fallingEdge g n) s = .next
        { s with groups := put s.groups g { y with measurement := (some
            { k with stage := .width epoch clock total (some n) }) } })

/-- 10 ms without the awaited edge in ARM, in a cycle of COUNT or in WIDTH end a measurement as NO_SIGNAL: past ARM,
with an unchanged epoch, that record is stored. A skin line falls, a reference is refused; the group moves on, or
takes up a configuration applied meanwhile, as PostStores says (R25 to R29, R31, R35 to R41). The time that passes
first is the operand (log 1), and a timeout may be taken later than 10 ms (log 3). -/
def Obligations.TimeoutsStoreNoSignal : Prop :=
  ∀ (g : GroupIx) (ms : Nat) (s u : State) (x : CaptureGroup) (m : Measurement) (c : Instr),
    s.stage = .running → u = elapse ms s → x = u.groups.get g → x.measurement = some m → 10 ≤ m.timer →
    (m.stage = .arm ∧ c = .armTimeout g ms ∨
      (∃ clock closed total, m.stage = .count u.timebase.epoch clock closed total) ∧ c = .countTimeout g ms ∨
      (∃ clock total high, m.stage = .width u.timebase.epoch clock total high) ∧ c = .widthTimeout g ms) →
    ∃ t, exec c s = .next t ∧
      PostStores g m.slot
        { status := .noSignal, temperature := none, frequency := none, quality := none, corrected := false,
          epoch := u.timebase.epoch, stamp := u.timebase.partTime } u t

/-- The end of WIDTH with equal epochs classifies and stores the result. A skin line: RANGE outside 1500 to 8500 Hz,
HEAD_FAULT or DUTY_BAD by the duty, else corrected by the last reference when that is usable, converted, and OK within
the valid range, RANGE outside it with the frequency converted (R21, R28 to R34, R37). The reference: accepted within
4850 to 5150 Hz at a healthy duty (R35). PostStores says what storing does (R35 to R41). -/
def Obligations.WidthEndStoresReading : Prop :=
  ∀ (g : GroupIx) (s : State) (x : CaptureGroup) (m : Measurement) (clock : CountingClock) (periods high : Nat) (f d : Int)
    (plain : Quality) (bad : ReadingStatus → Option Int → Reading),
    s.stage = .running → x = s.groups.get g → x.measurement = some m →
    m.stage = .width s.timebase.epoch clock periods (some high) → m.timer ≤ 10 →
    f = roundDiv (100 * m.window * (match clock with | .mhz8 => 8000000 | .mhz64 => 64000000)) periods →
    d = roundDiv (high * 1000 * m.window : Nat) periods →
    plain = (if s.timebase.state = .holdover ∨ s.timebase.state = .locked ∧ s.timebase.breakSeen = true
      then .degraded else .good) →
    (∀ status frequency, bad status frequency =
      { status := status, temperature := none, frequency := frequency, quality := none, corrected := false,
        epoch := s.timebase.epoch, stamp := s.timebase.partTime }) →
    (m.slot ≠ 0 →
      ∀ (line : LineRecord) (converted temp : Int) (corrected : Bool) (r : Reading),
        line = s.active.config.lines.get (lineOf g m.slot) →
        (∀ ref, x.lastRef = some ref → ref.epoch = s.timebase.epoch →
          (s.timebase.partTime - ref.stamp).toNat ≤ s.active.config.globals.referenceAge * 1000 →
          converted = roundDiv (f * 500000) ref.frequency.toNat ∧ corrected = true) →
        ((∀ ref, x.lastRef = some ref → ref.epoch ≠ s.timebase.epoch ∨
            s.active.config.globals.referenceAge * 1000 < (s.timebase.partTime - ref.stamp).toNat) →
          converted = f ∧ corrected = false) →
        temp = roundDiv ((converted - (200000 + line.zeroTrim)) * 100) line.span →
        r = (if f < 150000 ∨ 850000 < f then bad .range (some f)
          else if 200 ≤ d ∧ d ≤ 300 then bad .headFault (some f)
          else if d < 400 ∨ 600 < d then bad .dutyBad (some f)
          else if temp < -500 ∨ 13500 < temp then bad .range (some converted)
          else { status := .ok, temperature := some temp, frequency := some converted
                 quality := some (if corrected then .good else plain), corrected := corrected
                 epoch := s.timebase.epoch, stamp := s.timebase.partTime }) →
        ∃ t, exec (.widthEnd g) s = .next t ∧ PostStores g m.slot r s t) ∧
    (m.slot = 0 →
      ∀ r : Reading,
        r = (if f < 485000 ∨ 515000 < f then bad .range (some f)
          else if 200 ≤ d ∧ d ≤ 300 then bad .headFault (some f)
          else if d < 400 ∨ 600 < d then bad .dutyBad (some f)
          else { status := .ok, temperature := none, frequency := some f, quality := some plain, corrected := false
                 epoch := s.timebase.epoch, stamp := s.timebase.partTime }) →
        ∃ t, exec (.widthEnd g) s = .next t ∧ PostStores g m.slot r s t)

/-- A measurement whose COUNT or WIDTH ends, or times out, across a change of epoch is an abort: the first measures
the line again with abort count 1, the second hands ABORT_REPEAT and moves on, and after an application the group
takes up the configuration with neither; the readings stay (R29, R40). The group moves on to the position after the
cursor, from the last entry the first, with the window of the active configuration (R25, R26). The time that passes
before a timeout is its operand (log 1). -/
def Obligations.EpochChangeAborts : Prop :=
  (∀ (g : GroupIx) (ms : Nat) (s u : State) (x : CaptureGroup) (m : Measurement) (epoch : Half) (c : Instr),
     s.stage = .running → x = u.groups.get g → x.measurement = some m → epoch ≠ u.timebase.epoch →
     (u = s ∧ m.timer ≤ 10 ∧ (∃ clock periods high, m.stage = .width epoch clock periods (some high)) ∧
         c = .widthEnd g ∨
       u = elapse ms s ∧ 10 ≤ m.timer ∧ (∃ clock closed total, m.stage = .count epoch clock closed total) ∧
         c = .countTimeout g ms ∨
       u = elapse ms s ∧ 10 ≤ m.timer ∧ (∃ clock periods high, m.stage = .width epoch clock periods high) ∧
         c = .widthTimeout g ms) →
     (x.applied = false → m.aborts = 0 →
       exec c s = .next
         { u with groups := put u.groups g { x with measurement := (some
             { slot := m.slot, window := (u.active.config.globals.groups.get g).window, stage := .settle, aborts := 1,
               timer := 0 }) } }) ∧
     (x.applied = false → m.aborts ≠ 0 →
       exec c s = .next (updateGroup moveOn g (handFault (.group g) .abortRepeat (.line (lineOf g m.slot)) u))) ∧
     (x.applied = true → exec c s = .next (updateGroup takeUp g u))) ∧
  (∀ (g : GroupIx) (s : State) (x : CaptureGroup) (slot : SlotIx) (next : Nat),
     x = s.groups.get g → next = (if x.cursor + 1 < x.scanList.length then x.cursor + 1 else 0) →
     x.scanList[next]? = some slot →
     updateGroup moveOn g s =
       { s with groups := (put s.groups g
           { x with
             cursor := next
             measurement := some { slot := slot, window := (s.active.config.globals.groups.get g).window
                                   stage := .settle, aborts := 0, timer := 0 } }) })

/-! ### The timebase -/

/-- The crystal: the first edge in HOLDOVER starts proving; 64 ms of it make the crystal restore, to BYPASS and, with
the multiplier enabled, on to ACQUIRING; a gap clears proving in HOLDOVER, and in any other state is a crystal
failure, to HOLDOVER with XTAL_FAIL handed (R46 to R49). -/
def Obligations.CrystalSupervised : Prop :=
  ∀ (ms : Nat) (s u : State), s.stage = .running → u = elapse ms s →
    (exec .crystalEdge s = .next
      { s with timebase := { s.timebase with
          gapArmed := true
          proving := if s.timebase.state = .holdover ∧ s.timebase.proving = none then some 0
            else s.timebase.proving } }) ∧
    (s.timebase.gapArmed = true → s.timebase.state = .holdover →
      exec .crystalGap s = .next { s with timebase := { s.timebase with proving := none, gapArmed := false } }) ∧
    (s.timebase.gapArmed = true → s.timebase.state ≠ .holdover →
      exec .crystalGap s = .next (handFault .timebase .xtalFail .none
        (changeTimebase { s.timebase with
          state := .holdover, breakSeen := false, proving := none, lock := none, retry := none, gapArmed := false } s))) ∧
    (∀ t v, u.timebase.state = .holdover → u.timebase.proving = some t → 64 ≤ t →
      v = changeTimebase { u.timebase with
        state := .bypass, breakSeen := false, proving := none, lock := none, retry := none } u →
      (s.active.config.globals.multiplierEnable = false → exec (.crystalRestore ms) s = .next v) ∧
      (s.active.config.globals.multiplierEnable = true →
        exec (.crystalRestore ms) s = .next
          (changeTimebase { v.timebase with state := .acquiring, lock := some 0 } v))) ∧
    (∀ t, u.timebase.proving = some t → t < 64 → exec (.crystalRestore ms) s = .next u)

/-- The lock detector's reports: a lock report takes ACQUIRING to LOCKED, clears break-seen in LOCKED with a rise of
the epoch, and changes nothing else; a loss of lock counts in LOCKED with break-seen clear alone, where LOCK_BREAK is
handed and the unit acquires again under RELOCK or sets break-seen under RIDE (R50, R52 to R54, R57). -/
def Obligations.LockReportsJudged : Prop :=
  ∀ s : State, s.stage = .running →
    (s.timebase.state = .acquiring →
      exec .lockReport s = .next
        (changeTimebase { s.timebase with state := .locked, breakSeen := false, lock := none } s)) ∧
    (s.timebase.state = .locked → s.timebase.breakSeen = true →
      exec .lockReport s = .next
        { s with timebase := { s.timebase with breakSeen := false, epoch := s.timebase.epoch + 1#16 } }) ∧
    (s.timebase.state = .holdover ∨ s.timebase.state = .bypass ∨
        s.timebase.state = .locked ∧ s.timebase.breakSeen = false →
      exec .lockReport s = .next s) ∧
    (s.timebase.state = .locked → s.timebase.breakSeen = false →
      (s.active.config.globals.relock = .relock →
        exec .lossOfLockReport s = .next (handFault .timebase .lockBreak .none
          (changeTimebase { s.timebase with state := .acquiring, lock := some 0 } s))) ∧
      (s.active.config.globals.relock = .ride →
        exec .lossOfLockReport s = .next (handFault .timebase .lockBreak .none
          { s with timebase := { s.timebase with breakSeen := true, epoch := s.timebase.epoch + 1#16 } }))) ∧
    (s.timebase.state ≠ .locked ∨ s.timebase.breakSeen = true → exec .lossOfLockReport s = .next s)

/-- 10 ms of acquisition without a lock go to BYPASS with LOCK_TIMEOUT handed and the retry timer started; 1 s of it
starts an acquisition again; neither fires before (R49, R51). A change of timebase state raises the epoch by one and
sets TIMEBASE_CHANGE on all ports (R57, R58). -/
def Obligations.AcquisitionTimesOut : Prop :=
  (∀ (ms : Nat) (s u : State) (t : Nat), s.stage = .running → u = elapse ms s →
     (u.timebase.state = .acquiring → u.timebase.lock = some t →
       (10 ≤ t →
         exec (.lockTimeout ms) s = .next (handFault .timebase .lockTimeout .none
           (changeTimebase { u.timebase with state := .bypass, lock := none, retry := some 0 } u))) ∧
       (t < 10 → exec (.lockTimeout ms) s = .next u)) ∧
     (u.timebase.state = .bypass → u.timebase.retry = some t →
       (1000 ≤ t →
         exec (.retryExpiry ms) s = .next
           (changeTimebase { u.timebase with state := .acquiring, lock := some 0, retry := none } u)) ∧
       (t < 1000 → exec (.retryExpiry ms) s = .next u))) ∧
  (∀ (t : Timebase) (s : State),
     changeTimebase t s =
       { s with
         timebase := { t with epoch := t.epoch + 1#16 }
         ports :=
           { control := { s.ports.control with notices := { s.ports.control.notices with timebaseChange := true } }
             trip := { s.ports.trip with notices := { s.ports.trip.notices with timebaseChange := true } }
             service := { s.ports.service with notices := { s.ports.service.notices with timebaseChange := true } } } })

/-! ### The sweep -/

/-- A sweep boundary: not reached, nothing; with a sweep in flight it is skipped, and the next one is set a period on;
else, with no commit pending and no pass to settle, the sweep of the next number begins over the existing cells in
ascending index, or completes at once when none exists (R62 to R65, R145). In general the start considers the pending
commit, then settles the passes 0 to 7, then begins pass processing. A boundary less than 2^31 ms behind part time has
been reached, any other lies ahead (the model's choice, log 35); the time that passes first is the operand (log 1). -/
def Obligations.SweepBoundaryStartsSweep : Prop :=
  ∀ (ms : Nat) (s u v : State), s.stage = .running → u = elapse ms s →
    v = { u with nextBoundary := u.nextBoundary + BitVec.ofNat 32 u.active.config.globals.sweepPeriod } →
    (2147483648 ≤ (u.timebase.partTime - u.nextBoundary).toNat → exec (.sweepBoundary ms) s = .next u) ∧
    ((u.timebase.partTime - u.nextBoundary).toNat < 2147483648 →
      (u.sweep ≠ none → exec (.sweepBoundary ms) s = .next v) ∧
      (u.sweep = none → exec (.sweepBoundary ms) s = .next (beginProcessing
        (nextInterval ((List.finRange 8).foldl settlePass (considerCommit u))))) ∧
      (u.sweep = none → (∀ e, u.edit = some e → e.commitPending = false) →
        (∀ q : PassIx, (1 ≤ (u.active.config.passes.get q).tubeCount → (u.passes.get q).target = none) ∧
          ((u.active.config.passes.get q).tubeCount = 0 → u.passes.get q = PassService.online)) →
        ((∀ i, cellExists u.active.config i = false) →
          exec (.sweepBoundary ms) s = .next { v with completed := u.completed + 1#32 }) ∧
        (∀ i, cellExists u.active.config i = true →
          exec (.sweepBoundary ms) s = .next
            { v with sweep := (some
                { number := u.completed + 1#32
                  todo := (List.finRange 640).filter fun j => cellExists u.active.config j
                  working := Vector.replicate 80 CellRecord.unpublished }) })))

/-- The first stage of a sweep start with a commit pending: deferred while a store is in flight; dropped, with
COMMIT_DROPPED to the holder, when a cell it removes is not IDLE; else applied in one event: the pending copy active
with fresh codes, the next generation and source COMMIT, retained with a current check, the claim freed,
CONFIG_APPLIED on all ports, a changed multiplier enable taken up, the groups told of it, vanished cells cleared from
scan table and buffer, the working values and publications taken up, and a changed spall overdue compared at once;
nothing else changes (R36, R40, R41, R56, R87, R98, R118, R130, R145 to R148; log 17 for a reference left unfitted
while a measurement is in flight). What setting a notice on a port does is stated in GetNoticesEmptiesSet. -/
def Obligations.SweepStartConsidersCommit : Prop :=
  ∀ (s : State) (e : EditClaim), s.edit = some e → e.commitPending = true →
    (s.store ≠ none → considerCommit s = s) ∧
    (s.store = none →
      ((∃ i, cellExists s.active.config i = true ∧ cellExists e.staged i = false ∧ (s.alarms.get i).state ≠ .idle) →
        considerCommit s = notify e.holder .commitDropped { s with edit := none }) ∧
      ((∀ i, cellExists s.active.config i = true → cellExists e.staged i = false → (s.alarms.get i).state = .idle) →
        ∀ t, t = considerCommit s →
          t.active.config = e.staged ∧ (∀ i, t.active.codes.get i = checkCode i.1 (e.staged.cells.get i)) ∧
          t.active.generation = s.active.generation + 1#16 ∧ t.active.source = .commit ∧ t.edit = none ∧
          t.hold = sealHold { s.hold.contents with config := e.staged, codes := t.active.codes,
                                                   generation := t.active.generation, source := .commit } ∧
          t = { s with
                active := t.active, hold := t.hold, edit := none, ports := t.ports, timebase := t.timebase
                groups := t.groups, scanTable := t.scanTable, batch := t.batch, working := t.working
                published := t.published, passes := t.passes } ∧
          (∀ (before after changed : Bool) (notified : PassIx → Bool),
            before = s.active.config.globals.multiplierEnable → after = e.staged.globals.multiplierEnable →
            changed = decide (before = false ∧ after = true ∧ s.timebase.state = .bypass ∨
              before = true ∧ after = false ∧ (s.timebase.state = .acquiring ∨ s.timebase.state = .locked)) →
            (∀ q, notified q = ((s.passes.get q).spallTimer.any (fun k =>
                decide (e.staged.globals.spallOverdue * 60000 ≤ k)) &&
              decide ((s.passes.get q).state = .spall ∧ (s.passes.get q).overdueNotified = false ∧
                s.active.config.globals.spallOverdue ≠ e.staged.globals.spallOverdue))) →
            t.timebase =
              (if changed = true ∧ after = true then
                { s.timebase with state := .acquiring, lock := some 0, retry := none, epoch := s.timebase.epoch + 1#16 }
              else if changed = true then
                { s.timebase with state := .bypass, breakSeen := false, proving := none, lock := none, retry := none,
                                  epoch := s.timebase.epoch + 1#16 }
              else if before = true ∧ after = false ∧ s.timebase.state = .bypass then
                { s.timebase with retry := none }
              else s.timebase) ∧
            (∀ q, t.passes.get q =
              { s.passes.get q with overdueNotified := (s.passes.get q).overdueNotified || notified q }) ∧
            (∀ p, t.ports.get p =
              { s.ports.get p with notices :=
                { (s.ports.get p).notices with
                  configApplied := true
                  timebaseChange := (s.ports.get p).notices.timebaseChange || changed
                  spallOverdue := (s.ports.get p).notices.spallOverdue ||
                    (decide (p = .control) && (List.finRange 8).any notified) } })) ∧
          (∀ g, (s.groups.get g).measurement = none → t.groups.get g = takeUp e.staged g (s.groups.get g)) ∧
          (∀ g, (s.groups.get g).measurement ≠ none →
            t.groups.get g =
              { s.groups.get g with
                applied := true
                refStatus := if (e.staged.lines.get (lineOf g 0)).fitted = true then (s.groups.get g).refStatus else .none
                lastRef := if (e.staged.lines.get (lineOf g 0)).fitted = true then (s.groups.get g).lastRef
                  else none }) ∧
          (∀ i, t.scanTable.get i =
            if cellExists s.active.config i = true ∧ cellExists e.staged i = false then none
            else s.scanTable.get i) ∧
          (s.batch = none → t.batch = none) ∧
          (∀ b, s.batch = some b → t.batch = some { b with buffer := b.buffer.filter fun x =>
            !(cellExists s.active.config x.cell && !cellExists e.staged x.cell) }) ∧
          (∀ q, t.published.get q =
            if (s.active.config.passes.get q).tubeCount ≠ 0 ∧ (e.staged.passes.get q).tubeCount = 0 then none
            else s.published.get q) ∧
          (∀ i, cellExists s.active.config i = true → cellExists e.staged i = true →
            t.working.get i =
              if s.active.config.cells.get i = e.staged.cells.get i then
                { s.working.get i with mismatchReported := false }
              else { Working.restart with ageCounter := (s.working.get i).ageCounter }) ∧
          (∀ i, cellExists s.active.config i = false → cellExists e.staged i = false →
            t.working.get i = { s.working.get i with mismatchReported := false }) ∧
          (∀ i, cellExists s.active.config i ≠ cellExists e.staged i → t.working.get i = Working.restart)))

/-- The settling of a pass at a sweep start: an unused pass becomes ONLINE whole; a pending target becomes the state,
with the entry effects on its existing cells and its spall timer when it differs from the state; without one nothing
changes (R128, R129). Each change of state or target is retained, and nothing else changes (R132). The entry from
OFFLINE to SPALL, for which R129 has no row, has the effects of OFFLINE to ONLINE and ONLINE to SPALL together (the
model's choice, log 24). -/
def Obligations.PassSettlingEntersTarget : Prop :=
  ∀ (s y : State) (q : PassIx) (x after : PassService),
    x = s.passes.get q → y = { s with passes := put s.passes q after } →
    ((s.active.config.passes.get q).tubeCount = 0 →
      after = { state := .online, target := none, spallTimer := none, overdueNotified := false } →
      (x.state = .online ∧ x.target = none → settlePass s q = y) ∧
      (x.state ≠ .online ∨ x.target ≠ none →
        settlePass s q =
          { y with hold := sealHold { s.hold.contents with
              passes := put s.hold.contents.passes q { state := .online, target := none } } })) ∧
    (1 ≤ (s.active.config.passes.get q).tubeCount →
      (x.target = none → settlePass s q = s) ∧
      (∀ target, x.target = some target →
        (target = x.state → after = { x with target := none } →
          settlePass s q =
            { y with hold := sealHold { s.hold.contents with
                passes := put s.hold.contents.passes q { state := target, target := none } } }) ∧
        (target ≠ x.state →
          after = { state := target, target := none, spallTimer := if target = .spall then some 0 else none,
                    overdueNotified := false } →
          ∀ working : Vector Working 640,
            (∀ i, working.get i =
              if passOf i = q ∧ cellExists s.active.config i = true then
                (match x.state, target with
                  | .online, .spall | .spall, .online => { s.working.get i with rateRef := none, rate := none }
                  | .offline, .online => { s.working.get i with lastEstimate := none, staleCounter := 0 }
                  | .offline, .spall =>
                    { s.working.get i with lastEstimate := none, staleCounter := 0, rateRef := none, rate := none }
                  | _, _ => s.working.get i)
              else s.working.get i) →
            settlePass s q =
              { y with
                working := working
                hold := sealHold { s.hold.contents with
                  passes := put s.hold.contents.passes q { state := target, target := none } } })))

/-- The contributors of a cell: a source item contributes exactly when its line's record is OK and no older than the
stale limit, with the temperature plus the trim, clamped; a record of any other status contributes nothing, whatever
it holds (R70). An item whose line number names no line, as a disturbed entry may hold, contributes nothing (the
model's choice, log 15). An OK record without a temperature, as a reference line named by a disturbed entry may have,
contributes nothing (the model's choice, log 15). -/
def Obligations.ContributorsAreFreshReadings : Prop :=
  (∀ (g : GlobalRecord) (now : Word) (readings : Vector Reading 128) (item : SourceItem) (l : LineIx) (t : Int)
     (q : Quality),
     l.1 = item.line → (readings.get l).temperature = some t → (readings.get l).quality = some q →
     contributorOf g now readings item =
       if (readings.get l).status = .ok ∧ (now - (readings.get l).stamp).toNat ≤ g.staleLimit * 1000 then
         some { value := max (-500) (min 13500 (t + item.trim)), quality := q }
       else none) ∧
  (∀ (g : GlobalRecord) (now : Word) (readings : Vector Reading 128) (item : SourceItem),
     (∀ l : LineIx, l.1 = item.line → (readings.get l).status ≠ .ok → contributorOf g now readings item = none) ∧
     (∀ l : LineIx, l.1 = item.line → (readings.get l).temperature = none →
       contributorOf g now readings item = none) ∧
     (128 ≤ item.line → contributorOf g now readings item = none))

/-- The outcomes of a cell's computation: OFFLINE, CHECK_FAIL, then the case table and its fallbacks, with the last
estimate and the two counters of each (R68, R69, R71 to R73, R75 to R78). The spread is the largest value less the
smallest (R70, R72). The neighbour is a fallback cell whose published record is HEADS of quality GOOD or DEGRADED: its
estimate plus the offset, clamped (R76); a fallback number above 639, as a disturbed entry may hold, lends nothing
(the model's choice, log 15). -/
def Obligations.CellOutcomeTable : Prop :=
  (∀ (s : State) (i : CellIx) (w : Working) (g : GlobalRecord) (e : CellEntry) (xs : List Contributor)
     (sample : Option Int) (older : Nat),
     w = s.working.get i → g = s.active.config.globals → e = s.active.config.cells.get i →
     xs = e.sources.filterMap (contributorOf g s.timebase.partTime s.readings) →
     sample = (match s.scanTable.get i with
       | none => none
       | some x => if (s.timebase.partTime - x.stamp).toNat ≤ g.scanValidAge * 1000 then some x.temperature else none) →
     older = min (w.ageCounter + 1) 255 → w.ageCounter ≤ 255 →
     ((s.passes.get (passOf i)).state = .offline →
       cellOutcome s i = { estimate := none, quality := .offline, source := .none, contributors := 0,
                           scanPresent := false, lastEstimate := w.lastEstimate, staleCounter := 0,
                           ageCounter := older }) ∧
     ((s.passes.get (passOf i)).state ≠ .offline → checkCode i.1 e ≠ s.active.codes.get i →
       cellOutcome s i = { estimate := none, quality := .checkFail, source := .none, contributors := 0,
                           scanPresent := false, lastEstimate := none, staleCounter := 0, ageCounter := older }) ∧
     ((s.passes.get (passOf i)).state ≠ .offline → checkCode i.1 e = s.active.codes.get i →
       (xs ≠ [] → ∀ head : Int, head = (if spread xs ≤ g.disagreement
           then roundDiv (xs.map fun c => c.value).sum xs.length else largestValue xs) →
         (∀ t, sample = some t → (g.scanMargin : Int) < t - head →
           cellOutcome s i = { estimate := some t, quality := .uncertain, source := .scanOverride,
                               contributors := xs.length, scanPresent := true, lastEstimate := some t,
                               staleCounter := 0, ageCounter := 0 }) ∧
         ((∀ t, sample = some t → t - head ≤ g.scanMargin) →
           cellOutcome s i =
             { estimate := some head
               quality := if spread xs ≤ g.disagreement
                 then (if xs.all (fun c => decide (c.quality = .good)) then .good else .degraded) else .uncertain
               source := if spread xs ≤ g.disagreement then .heads else .headsSplit
               contributors := xs.length, scanPresent := sample.isSome, lastEstimate := some head, staleCounter := 0
               ageCounter := 0 })) ∧
       (∀ t, xs = [] → sample = some t →
         cellOutcome s i = { estimate := some t, quality := .uncertain, source := .scan, contributors := 0,
                             scanPresent := true, lastEstimate := some t, staleCounter := 0, ageCounter := older }) ∧
       (xs = [] → sample = none →
         (∀ lent, neighbourEstimate s e.fallback = some lent →
           cellOutcome s i = { estimate := some lent, quality := .uncertain, source := .neighbor, contributors := 0,
                               scanPresent := false, lastEstimate := some lent, staleCounter := 0,
                               ageCounter := older }) ∧
         (∀ last, neighbourEstimate s e.fallback = none → w.lastEstimate = some last → w.staleCounter < g.staleHold →
           cellOutcome s i = { estimate := some last, quality := .stale, source := .held, contributors := 0,
                               scanPresent := false, lastEstimate := some last, staleCounter := w.staleCounter + 1,
                               ageCounter := older }) ∧
         (neighbourEstimate s e.fallback = none → w.lastEstimate = none ∨ g.staleHold ≤ w.staleCounter →
           cellOutcome s i = { estimate := none, quality := .noData, source := .none, contributors := 0,
                               scanPresent := false, lastEstimate := none, staleCounter := 0,
                               ageCounter := older })))) ∧
  (∀ xs : List Contributor, xs ≠ [] →
     ∃ hi lo : Int, (∃ c ∈ xs, c.value = hi) ∧ (∀ c ∈ xs, c.value ≤ hi) ∧ (∃ c ∈ xs, c.value = lo) ∧
       (∀ c ∈ xs, lo ≤ c.value) ∧ largestValue xs = hi ∧ spread xs = hi - lo) ∧
  (∀ s : State,
     neighbourEstimate s none = none ∧
     ∀ f : Fallback,
       (640 ≤ f.cell → neighbourEstimate s (some f) = none) ∧
       (∀ j : CellIx, j.1 = f.cell →
         (s.published.get (passOf j) = none → neighbourEstimate s (some f) = none) ∧
         (∀ x r, s.published.get (passOf j) = some x → r = x.records.get (placeOf j) →
           neighbourEstimate s (some f) =
             if r.source = .heads ∧ (r.quality = .good ∨ r.quality = .degraded) then
               r.estimate.map fun e => max (-500) (min 13500 (e + f.offset))
             else none)))

/-- A cell computed GOOD, and so published GOOD, rests on at least one fresh OK reading of quality GOOD and on no
DEGRADED one; GOOD and DEGRADED are given in case b. alone, which has a contributor (R74). The record stands in the
working copy until the pass is published. -/
def Obligations.GoodCellsRestOnGoodReadings : Prop :=
  ∀ (s : State) (run : SweepRun) (i : CellIx) (rest : List CellIx), s.sweep = some run → run.todo = i :: rest →
    ∃ (t : State) (copy : Vector CellRecord 80),
      exec .cellComputation s = .next t ∧
      (t.published = s.published ∧ (∃ r, t.sweep = some r ∧ r.working = copy) ∨
        ∃ x, t.published.get (passOf i) = some x ∧ x.records = copy) ∧
      (∀ k, k ≠ placeOf i → copy.get k = run.working.get k) ∧
      ((copy.get (placeOf i)).quality = .good →
        (∃ item ∈ (s.active.config.cells.get i).sources, ∃ l : LineIx, l.1 = item.line ∧
          (s.readings.get l).status = .ok ∧ (s.readings.get l).quality = some .good ∧
          (s.timebase.partTime - (s.readings.get l).stamp).toNat ≤ s.active.config.globals.staleLimit * 1000) ∧
        (∀ item ∈ (s.active.config.cells.get i).sources, ∀ c : Contributor,
          contributorOf s.active.config.globals s.timebase.partTime s.readings item = some c → c.quality = .good) ∧
        (copy.get (placeOf i)).source = .heads) ∧
      ((copy.get (placeOf i)).source = .heads →
        ((copy.get (placeOf i)).quality = .good ∨ (copy.get (placeOf i)).quality = .degraded) ∧
        ∃ item ∈ (s.active.config.cells.get i).sources, ∃ c,
          contributorOf s.active.config.globals s.timebase.partTime s.readings item = some c) ∧
      ((copy.get (placeOf i)).source ≠ .heads →
        (copy.get (placeOf i)).quality = .uncertain ∨ (copy.get (placeOf i)).quality = .stale ∨
        (copy.get (placeOf i)).quality = .noData ∨ (copy.get (placeOf i)).quality = .checkFail ∨
        (copy.get (placeOf i)).quality = .offline)

/-- One cell computation: its working values with the rate of R80, a first mismatch handed to SWEEP, its hand-off
taken by the alarm unit, and then the next cell, or the publication of the pass with its tags, or the completion of
the sweep (R64, R65, R69, R79, R80, R83). -/
def Obligations.CellComputationAdvancesSweep : Prop :=
  ∀ (s : State) (run : SweepRun) (i : CellIx) (rest : List CellIx) (o : Outcome) (w : Working)
    (ref : Option RateReference) (rate : Option Int) (r : PassRecord) (st : PassState) (mismatch : Bool) (h : HandOff)
    (copy : Vector CellRecord 80),
    s.sweep = some run → run.todo = i :: rest → o = cellOutcome s i → w = s.working.get i →
    (o.quality = .stale ∨ o.quality = .noData ∨ o.quality = .checkFail ∨ o.quality = .offline →
      ref = none ∧ rate = none) →
    (∀ e, o.quality = .good ∨ o.quality = .degraded ∨ o.quality = .uncertain → o.estimate = some e →
      (w.rateRef = none → ref = some { estimate := e, sweep := run.number } ∧ rate = none) ∧
      (∀ x, w.rateRef = some x →
        ((run.number - x.sweep).toNat < s.active.config.globals.rateWindow → ref = some x ∧ rate = w.rate) ∧
        (s.active.config.globals.rateWindow ≤ (run.number - x.sweep).toNat →
          ref = some { estimate := e, sweep := run.number } ∧
          rate = some (max (-32767) (min 32767 (roundDiv ((e - x.estimate) * 60000)
            (s.active.config.globals.rateWindow * s.active.config.globals.sweepPeriod))))))) →
    r = s.active.config.passes.get (passOf i) → st = (s.passes.get (passOf i)).state →
    mismatch = decide (o.quality = .checkFail ∧ w.mismatchReported = false) →
    h = { cell := i, sweep := run.number, estimate := o.estimate, quality := o.quality, rate := rate, passState := st,
          high := if st = .spall then r.spallHigh else r.high
          highHigh := if st = .spall then r.spallHighHigh else r.highHigh
          deadband := r.deadband, rateLimit := r.rateLimit } →
    copy = put run.working (placeOf i)
      { estimate := o.estimate, quality := o.quality, source := o.source, contributors := o.contributors, rate := rate,
        age := o.ageCounter, scanPresent := o.scanPresent } →
    ∀ t u : State,
      t = { s with working := (put s.working i
              { lastEstimate := o.lastEstimate, staleCounter := o.staleCounter, ageCounter := o.ageCounter,
                rateRef := ref, rate := rate, mismatchReported := w.mismatchReported || mismatch }) } →
      u = changeAlarm i (moveRecord h (s.alarms.get i))
        (if mismatch then handFault .sweep .checkMismatch (.cell i) t else t) →
      exec .cellComputation s = .next
        (match rest with
          | [] => { u with
              published := put u.published (passOf i) (some
                { sweep := run.number, generation := s.active.generation, tubeCount := r.tubeCount
                  levelCount := r.levelCount, records := copy })
              completed := u.completed + 1#32, sweep := none }
          | j :: _ =>
            if passOf j = passOf i then { u with sweep := some { number := run.number, todo := rest, working := copy } }
            else { u with
              published := put u.published (passOf i) (some
                { sweep := run.number, generation := s.active.generation, tubeCount := r.tubeCount
                  levelCount := r.levelCount, records := copy })
              sweep := some { number := run.number, todo := rest
                              working := Vector.replicate 80 CellRecord.unpublished } })

/-! ### The restart and the image -/

/-- The start of a sequence (R171, R173): RESET_N driven low, a brownout while the hold supply holds, and a power-on
put every block at its restart values and sample the strap. The warm causes keep what the hold domain, the alarm
records and the pass states hold (the model's choice until the kind is decided, log 22), and wait in RESET_HELD; a
power-on clears them at once and goes to IMAGE_LOAD unless RESET_N is low. The cleared hold values are those of log
10, and that POWER_ON ends a low core supply is log 19. That a brownout without the hold supply has no effect is log
25, and that a cause whose level is already low has none is log 2. -/
def Obligations.RestartCausesBeginSequence : Prop :=
  ∀ s r : State,
    r = { s with
          stage := .resetHeld, restartPending := none, strap := s.pins.noflash
          timebase := { state := .holdover, breakSeen := false, epoch := 0#16, partTime := 0#32, proving := none,
                        lock := none, retry := none, gapArmed := false }
          groups := Vector.replicate 8 { parked := true, scanList := [], cursor := 0, measurement := none,
                                         applied := false, refStatus := .none, lastRef := none }
          readings := Vector.replicate 128 { status := .none, temperature := none, frequency := none, quality := none,
                                             corrected := false, epoch := 0#16, stamp := 0#32 }
          edit := none, completed := 0#32, sweep := none, published := Vector.replicate 8 none
          working := Vector.replicate 640 { lastEstimate := none, staleCounter := 0, ageCounter := 255, rateRef := none,
                                            rate := none, mismatchReported := false }
          batch := none, scanTable := Vector.replicate 640 none
          ports :=
            { control := { slot := .empty, overrun := false, frameError := false, notices := NoticeSet.empty }
              trip := { slot := .empty, overrun := false, frameError := false, notices := NoticeSet.empty }
              service := { slot := .empty, overrun := false, frameError := false, notices := NoticeSet.empty } }
          faults := Vector.replicate 15 FaultRecord.empty, store := none } →
    (s.pins.resetLow = false →
      exec .resetPin s = .next { r with cause := .resetPin, pins := { s.pins with resetLow := true } }) ∧
    (s.pins.resetLow = true → exec .resetPin s = .next s) ∧
    (s.pins.coreLow = false → s.pins.holdSupply = true →
      exec .brownout s = .next { r with cause := .brownout, pins := { s.pins with coreLow := true } }) ∧
    (s.pins.coreLow = true ∨ s.pins.holdSupply = false → exec .brownout s = .next s) ∧
    exec .powerOn s = .next
      { r with
        cause := .powerOn, stage := if s.pins.resetLow then .resetHeld else .imageLoad
        pins := { s.pins with coreLow := false, holdSupply := true }
        hold := { contents := clearedHold .powerOn, check := ~~~ holdCrc (clearedHold .powerOn) }
        passes := Vector.replicate 8 { state := .online, target := none, spallTimer := none, overdueNotified := false }
        alarms := Vector.replicate 640 AlarmRecord.idleRecord, hotList := [], unlisted := 0
        passAlert := Vector.replicate 8 false }

/-- The end of RESET_HELD and the hold check (R173, R174): while RESET_N or the core supply is still low the sequence
waits; then a cold cause goes to IMAGE_LOAD; a warm one whose check agrees runs on the retained configuration, passes
and alarms, with source HOLD and the record of R171; one whose check differs hands HOLD_CHECK to SWEEP, clears the
hold domain and goes to IMAGE_LOAD as cold. The retained source written HOLD is log 26, the cleared hold values log
10. That the sequence waits for both levels, whichever cause began it, is log 19. A retained entry that a disturbance
has left with severity NONE or no peak is restored with them (the model's choice, log 36). So is the entry of an
unused pass that a disturbance has left other than ONLINE (log 40). -/
def Obligations.HoldCheckDecidesWarm : Prop :=
  ∀ (l : HeldLevel) (s u : State), s.stage = .resetHeld →
    u = { s with pins := (match l with
          | .resetPin => { s.pins with resetLow := false }
          | .coreSupply => { s.pins with coreLow := false }) } →
    (u.pins.resetLow = true ∨ u.pins.coreLow = true → exec (.resetHeldEnd l) s = .next u) ∧
    (u.pins.resetLow = false → u.pins.coreLow = false →
      (s.cause = .powerOn ∨ s.cause = .holdLost →
        exec (.resetHeldEnd l) s = .next { u with stage := .imageLoad }) ∧
      (s.cause = .resetPin ∨ s.cause = .brownout ∨ s.cause = .request →
        ∀ h : HoldContents, h = s.hold.contents →
        (s.pins.holdSupply = true → s.hold.check = holdCrc h →
          ∀ (alarms : Vector AlarmRecord 640) (passes : Vector PassService 8) (lines : Vector Bool 8)
            (groups : Vector CaptureGroup 8),
            (∀ i, alarms.get i = match h.alarms.get i with
              | none => AlarmRecord.idleRecord
              | some r => { state := .lingering, severity := r.severity, condition := .none, peak := r.peak,
                            raisedSweep := 0#32, restored := true }) →
            (∀ q, passes.get q =
              { state := (h.passes.get q).state, target := (h.passes.get q).target
                spallTimer := if (h.passes.get q).state = .spall then some 0 else none, overdueNotified := false }) →
            (∀ q, lines.get q = (List.finRange 640).any fun j => decide (passOf j = q ∧
              (alarms.get j).state ≠ .idle ∧ (alarms.get j).severity = .highHigh)) →
            (∀ g, groups.get g = takeUp h.config g (s.groups.get g)) →
            exec (.resetHeldEnd l) s = .next
              { u with
                stage := .running, timebase := Timebase.restart, groups := groups
                active := { config := h.config, codes := h.codes, generation := h.generation, source := .hold }
                nextBoundary := BitVec.ofNat 32 h.config.globals.sweepPeriod
                passes := passes, alarms := alarms, hotList := (rankedCells alarms).take 16
                unlisted := (rankedCells alarms).length - 16, passAlert := lines
                hold := sealHold { h with source := .hold, lastCause := s.cause
                                          warmCount := if h.warmCount = 65535#16 then h.warmCount else h.warmCount + 1#16 }
                ports :=
                  { control := { slot := .empty, overrun := false, frameError := false
                                 notices := { NoticeSet.empty with restarted := true } }
                    trip := { slot := .empty, overrun := false, frameError := false
                              notices := { NoticeSet.empty with restarted := true } }
                    service := { slot := .empty, overrun := false, frameError := false
                                 notices := { NoticeSet.empty with restarted := true } } } }) ∧
        (s.pins.holdSupply = false ∨ s.hold.check ≠ holdCrc h →
          exec (.resetHeldEnd l) s = .next
            (handFault .sweep .holdCheck .none
              { u with
                cause := .holdLost, stage := .imageLoad
                hold := { contents := clearedHold .holdLost, check := ~~~ holdCrc (clearedHold .holdLost) }
                passes := Vector.replicate 8
                  { state := .online, target := none, spallTimer := none, overdueNotified := false }
                alarms := Vector.replicate 640 AlarmRecord.idleRecord, hotList := [], unlisted := 0
                passAlert := Vector.replicate 8 false }))))

/-- IMAGE_LOAD takes the first outcome that applies (R176): the strap, an absent flash, what the region holds; then
the loaded configuration, with its fault, is written into the hold domain with a current check, and RUNNING begins
(R173). A marker, format number, length or CRC other than R175 gives is LOAD_CHECK; a region that loads has passed the
checks and gives the generation of its header. With a good header, a body that the forms of R175 do not fill, each
sized by its source count and its marker of 0 or 1, each with its own index, is LOAD_CHECK; one that is the body of a
configuration which passes the checks loads it; any other is LOAD_INVALID (R176). A field outside its enumeration is
no configuration's, and so LOAD_INVALID (log 21). A sealed hold domain carries the check of its contents (R174). -/
def Obligations.ImageLoadOutcome : Prop :=
  (∀ (s u : State) (a : ActiveConfig) (fault : Option FaultKind), s.stage = .imageLoad →
     (∀ i, a.codes.get i = checkCode i.1 (a.config.cells.get i)) →
     ((s.strap = true ∧ fault = none ∨ s.strap = false ∧ s.flash.ident ≠ .part ∧ fault = some .flashAbsent ∨
         s.strap = false ∧ s.flash.ident = .part ∧
           (readImage s.flash.region = .check ∧ fault = some .loadCheck ∨
             readImage s.flash.region = .invalid ∧ fault = some .loadInvalid)) ∧
         a.config = emptyConfiguration ∧ a.generation = 0#16 ∧ a.source = .empty ∨
       s.strap = false ∧ s.flash.ident = .part ∧ fault = none ∧
         readImage s.flash.region = .good a.config a.generation ∧ a.source = .image) →
     u = { s with
           active := a, passes := Vector.replicate 8 PassService.online
           hold := sealHold { config := a.config, codes := a.codes, generation := a.generation, source := a.source
                              passes := Vector.replicate 8 { state := .online, target := none }
                              alarms := Vector.replicate 640 none, lastCause := s.cause, warmCount := 0#16 } } →
     ∃ t, exec .imageLoad s = .next t ∧
       t = { u with
             stage := .running, timebase := Timebase.restart, groups := t.groups, passAlert := t.passAlert
             nextBoundary := BitVec.ofNat 32 a.config.globals.sweepPeriod
             faults := (match fault with
               | none => s.faults
               | some k => (handFault .store k .none s).faults)
             ports := { control := PortUnit.restarted, trip := PortUnit.restarted, service := PortUnit.restarted } } ∧
       (∀ g, t.groups.get g = takeUp a.config g (s.groups.get g)) ∧
       (∀ q, t.passAlert.get q = passAlarmed s.alarms q)) ∧
  (∀ m : Memory,
     (readBytes m 0 4 ≠ [0x54#8, 0x56#8, 0x32#8, 0x36#8] ∨ readBytes m 4 2 ≠ [0#8, 1#8] ∨
       (∃ n, n = (readByte m 6).toNat * 256 + (readByte m 7).toNat ∧
         (n < 3355 ∨ 11675 < n ∨ be32 (crc32 (readBytes m 0 (10 + n))).toNat ≠ readBytes m (10 + n) 4)) →
       readImage m = .check) ∧
     (∀ c g, readImage m = .good c g →
       checkConfiguration c = none ∧ g.toNat = (readByte m 8).toNat * 256 + (readByte m 9).toNat)) ∧
  (∀ (m : Memory) (n : Nat) (body : List Byte) (bodyOf : Configuration → List Byte),
     readBytes m 0 4 = [0x54#8, 0x56#8, 0x32#8, 0x36#8] → readBytes m 4 2 = [0#8, 1#8] →
     n = (readByte m 6).toNat * 256 + (readByte m 7).toNat → 3355 ≤ n → n ≤ 11675 →
     be32 (crc32 (readBytes m 0 (10 + n))).toNat = readBytes m (10 + n) 4 → body = readBytes m 10 n →
     (∀ c, bodyOf c = c.lines.toList.flatMap lineForm ++
       (List.finRange 640).flatMap (fun i => cellForm i.1 (c.cells.get i)) ++ c.passes.toList.flatMap passForm ++
       globalForm c.globals) →
     (¬ FormsFill body → readImage m = .check) ∧
     (∀ c, checkConfiguration c = none → body = bodyOf c →
       readImage m = .good c (BitVec.ofNat 16 ((readByte m 8).toNat * 256 + (readByte m 9).toNat))) ∧
     (FormsFill body → (∀ c, checkConfiguration c = none → body ≠ bodyOf c) → readImage m = .invalid)) ∧
  (∀ h : HoldContents, sealHold h = { contents := h, check := holdCrc h })

/-- The image a store writes, with its marker, loads as the configuration and generation it was made from (R175 to
R177): for every configuration that passes the whole-configuration checks, and every canonical content the region had
before. -/
def Obligations.StoredImageLoads : Prop :=
  ∀ (c : Configuration) (g : Half) (m : Memory), Memory.wf m = true → checkConfiguration c = none →
    readImage (writeBytes (writeBytes m 4 ((imageBytes c g).drop 4)) 0 imageMarker) = .good c g

/-- The forms of R162 lose nothing: each record within its ranges, and each index, is read back whole from its form, a
cell entry form with whatever bytes follow it. -/
def Obligations.RecordFormsReadBack : Prop :=
  (∀ r, lineInRange r = true → readLine (lineForm r) = some r) ∧
  (∀ (i : CellIx) (e : CellEntry) (rest : List Byte), cellInRange e = true →
    takeCellForm (cellForm i.1 e ++ rest) = some (i.1, e, rest)) ∧
  (∀ r, passInRange r = true → readPass (passForm r) = some r) ∧
  (∀ r, globalInRange r = true → readGlobal (globalForm r) = some r)

/-- Disturbances (R69, R174): of a stored entry and its code, which change nothing else; and of the hold domain, whose
stored check is not updated by a disturbance of its contents, so that a check of disturbed contents fails unless the
disturbed values give the same CRC; a disturbance of the stored check itself leaves its operand there. What the
disturbance leaves is the operand (logs 11 and 15). Loss of the hold supply leaves the cleared contents with the last
cause kept and a check that does not match, the supply low until POWER_ON (the model's choice, logs 10, 25 and 34). -/
def Obligations.DisturbancesChangeStoredBits : Prop :=
  ∀ (s : State) (i : CellIx) (e : CellEntry) (code : Byte) (v : Word) (c : RestartCause) (n : Half)
    (a : Option RetainedAlarm) (q : PassIx) (st : PassState) (target : Option PassState) (l : LineIx)
    (lr : LineRecord) (pr : PassRecord) (gr : GlobalRecord) (h : HoldContents) (gen : Half), h = s.hold.contents →
    exec (.entryStorageUpset i e code) s = .next
      { s with active := { s.active with config := { s.active.config with cells := put s.active.config.cells i e }
                                         codes := put s.active.codes i code } } ∧
    exec (.holdDomainDisturbance .supplyLost) s = .next
      { s with hold := { contents := clearedHold h.lastCause, check := ~~~ holdCrc (clearedHold h.lastCause) }
               pins := { s.pins with holdSupply := false } } ∧
    exec (.holdDomainDisturbance (.check v)) s = .next { s with hold := { s.hold with check := v } } ∧
    exec (.holdDomainDisturbance (.restartRecord c n)) s = .next
      { s with hold := { s.hold with contents := { h with lastCause := c, warmCount := n } } } ∧
    exec (.holdDomainDisturbance (.alarm i a)) s = .next
      { s with hold := { s.hold with contents := { h with alarms := put h.alarms i a } } } ∧
    exec (.holdDomainDisturbance (.passState q st target)) s = .next
      { s with hold := { s.hold with contents :=
          { h with passes := put h.passes q { state := st, target := target } } } } ∧
    exec (.holdDomainDisturbance (.cell i e code)) s = .next
      { s with hold := { s.hold with contents :=
          { h with config := { h.config with cells := put h.config.cells i e }, codes := put h.codes i code } } } ∧
    exec (.holdDomainDisturbance (.line l lr)) s = .next
      { s with hold := { s.hold with contents :=
          { h with config := { h.config with lines := put h.config.lines l lr } } } } ∧
    exec (.holdDomainDisturbance (.pass q pr)) s = .next
      { s with hold := { s.hold with contents :=
          { h with config := { h.config with passes := put h.config.passes q pr } } } } ∧
    exec (.holdDomainDisturbance (.globals gr)) s = .next
      { s with hold := { s.hold with contents := { h with config := { h.config with globals := gr } } } } ∧
    exec (.holdDomainDisturbance (.generation gen)) s = .next
      { s with hold := { s.hold with contents := { h with generation := gen } } }

/-! ### What every step keeps -/

/-- The state after reset meets every invariant below, and is what an image load of a blank flash leaves after a
power-on, up to the queue and the port's data out (R173, R176; the choice of that state is log 7, the erased byte log
8). -/
def Obligations.InvariantsAtReset : Prop :=
  Memory.wf State.reset.flash.region = true ∧ AlarmOutputsFollow State.reset ∧ UnitsLegal State.reset ∧
  ∀ s : State, s.flash = { ident := .part, region := [] } →
    s.pins = { resetLow := false, coreLow := false, holdSupply := true, noflash := false } →
    ∃ t u, exec .powerOn s = .next t ∧ exec .imageLoad t = .next u ∧
      u = { State.reset with pending := s.pending, dataOut := s.dataOut }

/-- Every step keeps the flash region in its canonical form, so that equal contents are equal data. -/
def Obligations.FlashRegionStaysCanonical : Prop :=
  ∀ s t : State, Memory.wf s.flash.region = true → step s = .next t → Memory.wf t.flash.region = true

/-- After every step the hot list, the unlisted count and the alert lines are those of the alarm records (R112, R113,
R115). -/
def Obligations.AlarmOutputsFollowRecords : Prop :=
  ∀ s t : State, AlarmOutputsFollow s → step s = .next t → AlarmOutputsFollow t

/-- Every step keeps every unit in a state that the spec admits: timers run in their own states alone, a group's
cursor stays in its scan list, a fault record's count and contents agree, a claim's timer and its commit, a batch's
bounds, and outside RUNNING nothing is in flight. -/
def Obligations.UnitsStayLegal : Prop :=
  ∀ s t : State, UnitsLegal s → step s = .next t → UnitsLegal t

/-- A HIGHHIGH record ends only through the trip port (R110): a RAISED or LINGERING record of severity HIGHHIGH, its
retained entry in step and outside IMAGE_LOAD, where a cold sequence has left no record, stays so through every step
but an ACKNOWLEDGE of HIGHHIGH for its own cell taken on the trip port, and a sequence that goes cold, by a power-on
or a failed hold check. Its retained entry stays in step unless the hold domain is disturbed. No other step makes a
record HELD at HIGHHIGH. -/
def Obligations.HighHighNeedsTripPort : Prop :=
  ∀ (s t : State) (i : CellIx), step s = .next t →
    ((s.alarms.get i).state = .raised ∨ (s.alarms.get i).state = .lingering →
      (s.alarms.get i).severity = .highHigh → s.hold.contents.alarms.get i = retainedEntry (s.alarms.get i) →
      s.stage ≠ .imageLoad →
      (((t.alarms.get i).state = .raised ∨ (t.alarms.get i).state = .lingering) ∧
        (t.alarms.get i).severity = .highHigh ∧ t.stage ≠ .imageLoad ∧
        ((∀ u, s.pending.head? ≠ some (.holdDomainDisturbance u)) →
          t.hold.contents.alarms.get i = retainedEntry (t.alarms.get i))) ∨
      TripAcknowledges i s ∨ s.pending.head? = some .powerOn ∨
      t.stage = .imageLoad ∧ (t.cause = .holdLost ∨ t.cause = .powerOn)) ∧
    ((t.alarms.get i).state = .held → (t.alarms.get i).severity = .highHigh →
      (s.alarms.get i).state = .held ∧ (s.alarms.get i).severity = .highHigh ∨ TripAcknowledges i s)
end

