-- ==== Sys2Proof/Laws/Tables.lean ====
section
/-! SUPPORT. Reading a table or a port's part after a write. -/
namespace Sys2Proof.Machine

theorem table_get {α : Type} {n : Nat} (v : Vector α n) (i : Fin n) : v.get i = v[i.1] := rfl

@[simp] theorem put_get_self {α : Type} {n : Nat} (v : Vector α n) (i : Fin n) (x : α) : (put v i x).get i = x := by
  simp [put, table_get]

theorem put_get_ne {α : Type} {n : Nat} (v : Vector α n) (i j : Fin n) (x : α) (h : i ≠ j) :
    (put v i x).get j = v.get j := by
  have : i.1 ≠ j.1 := fun e => h (Fin.ext e)
  simp [put, table_get, this]

theorem put_get {α : Type} {n : Nat} (v : Vector α n) (i j : Fin n) (x : α) :
    (put v i x).get j = if i = j then x else v.get j := by
  split
  · next h => subst h; exact put_get_self v i x
  · next h => exact put_get_ne v i j x h

@[simp] theorem get_replicate {α : Type} (n : Nat) (x : α) (i : Fin n) : (Vector.replicate n x).get i = x := by
  simp [table_get]

@[simp] theorem get_ofFn {α : Type} {n : Nat} (f : Fin n → α) (i : Fin n) : (Vector.ofFn f).get i = f i := by
  simp [table_get]

@[simp] theorem get_map {α β : Type} {n : Nat} (f : α → β) (v : Vector α n) (i : Fin n) :
    (v.map f).get i = f (v.get i) := by
  simp [table_get]

theorem table_ext {α : Type} {n : Nat} (v w : Vector α n) (h : ∀ i, v.get i = w.get i) : v = w := by
  apply Vector.ext
  intro i hi
  exact h ⟨i, hi⟩

@[simp] theorem port_set_get_self {α : Type} (v : PerPort α) (p : Port) (x : α) : (v.set p x).get p = x := by
  cases p <;> rfl

theorem port_set_get_ne {α : Type} (v : PerPort α) (p q : Port) (x : α) (h : p ≠ q) :
    (v.set p x).get q = v.get q := by
  cases p <;> cases q <;> first | rfl | exact absurd rfl h

@[simp] theorem port_map_get {α : Type} (f : α → α) (v : PerPort α) (p : Port) : (v.map f).get p = f (v.get p) := by
  cases p <;> rfl

@[simp] theorem port_set_set {α : Type} (v : PerPort α) (p : Port) (x y : α) : (v.set p x).set p y = v.set p y := by
  cases p <;> rfl

@[simp] theorem port_set_get {α : Type} (v : PerPort α) (p : Port) : v.set p (v.get p) = v := by
  cases p <;> rfl

end Sys2Proof.Machine
end

