-- ==== Sys2Proof/Laws/Geometry.lean ====
section
/-! SUPPORT. What the numbers of requests name (R1 to R3). -/
namespace Sys2Proof.Machine

theorem cellIx?_some (n : Nat) (i : CellIx) : cellIx? n = some i ↔ i.1 = n := by
  unfold cellIx?
  split
  · next h =>
    constructor
    · intro e; rw [← Option.some.inj e]
    · intro e; subst e; rfl
  · next h =>
    constructor
    · intro e; cases e
    · intro e; have := i.2; omega

theorem cellIx?_none (n : Nat) : cellIx? n = none ↔ 640 ≤ n := by
  unfold cellIx?
  split <;> simp <;> omega

theorem lineIx?_some (n : Nat) (l : LineIx) : lineIx? n = some l ↔ l.1 = n := by
  unfold lineIx?
  split
  · next h =>
    constructor
    · intro e; rw [← Option.some.inj e]
    · intro e; subst e; rfl
  · next h =>
    constructor
    · intro e; cases e
    · intro e; have := l.2; omega

theorem lineIx?_none (n : Nat) : lineIx? n = none ↔ 128 ≤ n := by
  unfold lineIx?
  split <;> simp <;> omega

theorem passIx?_some (n : Nat) (p : PassIx) : passIx? n = some p ↔ p.1 = n := by
  unfold passIx?
  split
  · next h =>
    constructor
    · intro e; rw [← Option.some.inj e]
    · intro e; subst e; rfl
  · next h =>
    constructor
    · intro e; cases e
    · intro e; have := p.2; omega

theorem passIx?_none (n : Nat) : passIx? n = none ↔ 8 ≤ n := by
  unfold passIx?
  split <;> simp <;> omega

theorem existingCell?_some (c : Configuration) (n : Nat) (i : CellIx) :
    existingCell? c n = some i ↔ i.1 = n ∧ cellExists c i = true := by
  unfold existingCell?
  cases h : cellIx? n with
  | none =>
    have := (cellIx?_none n).mp h
    constructor
    · intro e; cases e
    · intro e; have := i.2; omega
  | some j =>
    have hj := (cellIx?_some n j).mp h
    dsimp only
    split
    · next hc =>
      constructor
      · intro e; rw [← Option.some.inj e]; exact ⟨hj, hc⟩
      · intro e; congr 1; exact Fin.ext (hj.trans e.1.symm)
    · next hc =>
      constructor
      · intro e; cases e
      · intro e
        have : j = i := Fin.ext (hj.trans e.1.symm)
        subst this
        exact absurd e.2 hc

theorem existingCell?_none (c : Configuration) (n : Nat) :
    existingCell? c n = none ↔ ∀ i : CellIx, i.1 = n → cellExists c i = false := by
  constructor
  · intro h i hi
    cases he : cellExists c i with
    | false => rfl
    | true => rw [(existingCell?_some c n i).mpr ⟨hi, he⟩] at h; cases h
  · intro h
    cases he : existingCell? c n with
    | none => rfl
    | some i =>
      have := (existingCell?_some c n i).mp he
      rw [h i this.1] at this
      cases this.2

end Sys2Proof.Machine
end

