-- ==== Sys2Proof/Laws/Memory.lean ====
section
/-! SUPPORT. The canonical form of the flash region: every operation that writes the region keeps it, and reading after a
write. -/
namespace Sys2Proof.Machine

theorem wfFrom_mono (lo lo' : Nat) (m : Memory) (h : lo' ≤ lo) (w : Memory.wfFrom lo m = true) :
    Memory.wfFrom lo' m = true := by
  cases m with
  | nil => rfl
  | cons c rest =>
    simp only [Memory.wfFrom, Bool.and_eq_true, decide_eq_true_eq] at w ⊢
    exact ⟨⟨Nat.le_trans h w.1.1, w.1.2⟩, w.2⟩

theorem insertByte_wf (m : Memory) (lo a : Nat) (b : Byte) (hlo : lo ≤ a) (ha : a < regionSize)
    (w : Memory.wfFrom lo m = true) : Memory.wfFrom lo (insertByte m a b) = true := by
  induction m generalizing lo with
  | nil =>
    simp only [insertByte]
    split
    · rfl
    · next h => simp [Memory.wfFrom, hlo, ha, h]
  | cons c rest ih =>
    have w' := w
    simp only [Memory.wfFrom, Bool.and_eq_true, decide_eq_true_eq] at w'
    obtain ⟨⟨h1, h2, h3⟩, h4⟩ := w'
    simp only [insertByte]
    split
    · next h =>
      simp only [Memory.wfFrom, Bool.and_eq_true, decide_eq_true_eq]
      exact ⟨⟨h1, h2, h3⟩, ih (c.1 + 1) h h4⟩
    · split
      · next hn he =>
        split
        · exact wfFrom_mono _ _ _ (by omega) h4
        · next hb =>
          simp only [Memory.wfFrom, Bool.and_eq_true, decide_eq_true_eq]
          exact ⟨⟨hlo, ha, hb⟩, he ▸ h4⟩
      · next hn he =>
        split
        · exact w
        · next hb =>
          simp only [Memory.wfFrom, Bool.and_eq_true, decide_eq_true_eq]
          exact ⟨⟨hlo, ha, hb⟩, ⟨by omega, h2, h3⟩, h4⟩

theorem writeByte_wf (m : Memory) (a : Nat) (b : Byte) (w : m.wf = true) : (writeByte m a b).wf = true := by
  unfold writeByte
  split
  · next h => exact insertByte_wf m 0 a b (Nat.zero_le _) h w
  · exact w

theorem writeBytes_wf (bs : List Byte) (m : Memory) (a : Nat) (w : m.wf = true) : (writeBytes m a bs).wf = true := by
  induction bs generalizing a with
  | nil => exact w
  | cons b bs ih => exact writeByte_wf _ _ _ (ih (a + 1))

theorem writeCells_wf (cells : List (Nat × Byte)) (m : Memory) (w : m.wf = true) : (writeCells m cells).wf = true := by
  induction cells generalizing m with
  | nil => exact w
  | cons c rest ih => exact ih _ (writeByte_wf _ _ _ w)

theorem eraseFlash_wf (f : Flash) (w : f.region.wf = true) : (eraseFlash f).region.wf = true := by
  unfold eraseFlash
  split
  · rfl
  · exact w

theorem programFlash_wf (a : Nat) (bs : List Byte) (f : Flash) (w : f.region.wf = true) :
    (programFlash a bs f).region.wf = true := by
  unfold programFlash
  split
  · exact writeBytes_wf _ _ _ w
  · exact w

theorem misreadFlash_wf (cells : List (Nat × Byte)) (f : Flash) (w : f.region.wf = true) :
    (misreadFlash cells f).region.wf = true := by
  unfold misreadFlash
  split
  · exact writeCells_wf _ _ w
  · exact w

theorem reset_region_wf : State.reset.flash.region.wf = true := rfl

theorem readByte_below (m : Memory) (lo a : Nat) (w : Memory.wfFrom lo m = true) (h : a < lo) :
    readByte m a = erasedByte := by
  induction m generalizing lo with
  | nil => rfl
  | cons c rest ih =>
    simp only [Memory.wfFrom, Bool.and_eq_true, decide_eq_true_eq] at w
    have hne : c.1 ≠ a := by omega
    simp only [readByte, hne, if_false]
    exact ih (c.1 + 1) w.2 (by omega)

theorem readByte_insertByte (m : Memory) (lo a a' : Nat) (b : Byte) (w : Memory.wfFrom lo m = true) :
    readByte (insertByte m a b) a' = if a = a' then b else readByte m a' := by
  induction m generalizing lo with
  | nil =>
    simp only [insertByte]
    split
    · next h => subst h; split <;> simp_all [readByte]
    · simp [readByte]
  | cons c rest ih =>
    simp only [Memory.wfFrom, Bool.and_eq_true, decide_eq_true_eq] at w
    obtain ⟨⟨h1, h2, h3⟩, h4⟩ := w
    have below := readByte_below rest (c.1 + 1)
    simp only [insertByte]
    by_cases hlt : c.1 < a
    · simp only [hlt, if_true, readByte, ih (c.1 + 1) h4]
      by_cases e : c.1 = a'
      · have : a ≠ a' := by omega
        simp [e, this]
      · simp [e]
    · by_cases he : c.1 = a
      · subst he
        by_cases hb : b = erasedByte
        · simp only [Nat.lt_irrefl, hb, if_true, if_false, readByte]
          by_cases e : c.1 = a'
          · simp only [e, if_true]; exact below a' h4 (by omega)
          · simp only [e, if_false]
        · simp only [Nat.lt_irrefl, hb, if_true, if_false, readByte]
          by_cases e : c.1 = a' <;> simp [e]
      · simp only [hlt, he, if_false]
        by_cases hb : b = erasedByte
        · simp only [hb, if_true, readByte]
          by_cases e : a = a'
          · have : c.1 ≠ a' := by omega
            simp only [e, this, if_true, if_false]; exact below a' h4 (by omega)
          · simp [e]
        · simp [hb, readByte]

theorem readByte_writeByte (m : Memory) (a a' : Nat) (b : Byte) (w : m.wf = true) :
    readByte (writeByte m a b) a' = if a < regionSize ∧ a = a' then b else readByte m a' := by
  unfold writeByte
  split
  · next h => simp [readByte_insertByte m 0 a a' b w, h]
  · next h => simp [h]

theorem readByte_writeBytes (bs : List Byte) (m : Memory) (a a' : Nat) (w : m.wf = true)
    (h : a + bs.length ≤ regionSize) :
    readByte (writeBytes m a bs) a' = if a ≤ a' then (bs[a' - a]?).getD (readByte m a') else readByte m a' := by
  induction bs generalizing a with
  | nil => simp [writeBytes]
  | cons b bs ih =>
    simp only [List.length_cons] at h
    rw [writeBytes, readByte_writeByte _ _ _ _ (writeBytes_wf bs m (a + 1) w), ih (a + 1) (by omega)]
    have ha : a < regionSize := by omega
    simp only [ha, true_and]
    by_cases e : a = a'
    · subst e; simp
    · by_cases l : a + 1 ≤ a'
      · have l' : a ≤ a' := by omega
        obtain ⟨k, hk⟩ : ∃ k, a' - a = k + 1 := ⟨a' - a - 1, by omega⟩
        have hk' : a' - (a + 1) = k := by omega
        simp [e, l, l', hk, hk']
      · have l' : ¬ a ≤ a' := by omega
        simp [e, l, l']

theorem readBytes_writeBytes (bs : List Byte) (m : Memory) (a k n : Nat) (w : m.wf = true)
    (h : a + bs.length ≤ regionSize) (hk : k + n ≤ bs.length) :
    readBytes (writeBytes m a bs) (a + k) n = (bs.drop k).take n := by
  apply List.ext_getElem
  · simp [readBytes]; omega
  · intro j h1 h2
    simp only [readBytes, List.length_map, List.length_range] at h1
    have hj : k + j < bs.length := by omega
    have e : a + k + j - a = k + j := by omega
    have l : a ≤ a + k + j := by omega
    simp [readBytes, readByte_writeBytes bs m a _ w h, e, l, List.getElem?_eq_getElem hj]

end Sys2Proof.Machine
end

