-- ==== Sys2Proof/Laws/State.lean ====
section
/-! SUPPORT. One lemma per field per named update of the state: what the update leaves of the field. -/
namespace Sys2Proof.Machine

@[simp] theorem setPort_pending (s : State) (p : Port) (u : PortUnit) : (s.setPort p u).pending = s.pending := rfl
@[simp] theorem setPort_stage (s : State) (p : Port) (u : PortUnit) : (s.setPort p u).stage = s.stage := rfl
@[simp] theorem setPort_cause (s : State) (p : Port) (u : PortUnit) : (s.setPort p u).cause = s.cause := rfl
@[simp] theorem setPort_restartPending (s : State) (p : Port) (u : PortUnit) : (s.setPort p u).restartPending = s.restartPending := rfl
@[simp] theorem setPort_strap (s : State) (p : Port) (u : PortUnit) : (s.setPort p u).strap = s.strap := rfl
@[simp] theorem setPort_pins (s : State) (p : Port) (u : PortUnit) : (s.setPort p u).pins = s.pins := rfl
@[simp] theorem setPort_hold (s : State) (p : Port) (u : PortUnit) : (s.setPort p u).hold = s.hold := rfl
@[simp] theorem setPort_timebase (s : State) (p : Port) (u : PortUnit) : (s.setPort p u).timebase = s.timebase := rfl
@[simp] theorem setPort_groups (s : State) (p : Port) (u : PortUnit) : (s.setPort p u).groups = s.groups := rfl
@[simp] theorem setPort_readings (s : State) (p : Port) (u : PortUnit) : (s.setPort p u).readings = s.readings := rfl
@[simp] theorem setPort_active (s : State) (p : Port) (u : PortUnit) : (s.setPort p u).active = s.active := rfl
@[simp] theorem setPort_edit (s : State) (p : Port) (u : PortUnit) : (s.setPort p u).edit = s.edit := rfl
@[simp] theorem setPort_completed (s : State) (p : Port) (u : PortUnit) : (s.setPort p u).completed = s.completed := rfl
@[simp] theorem setPort_nextBoundary (s : State) (p : Port) (u : PortUnit) : (s.setPort p u).nextBoundary = s.nextBoundary := rfl
@[simp] theorem setPort_sweep (s : State) (p : Port) (u : PortUnit) : (s.setPort p u).sweep = s.sweep := rfl
@[simp] theorem setPort_published (s : State) (p : Port) (u : PortUnit) : (s.setPort p u).published = s.published := rfl
@[simp] theorem setPort_working (s : State) (p : Port) (u : PortUnit) : (s.setPort p u).working = s.working := rfl
@[simp] theorem setPort_passes (s : State) (p : Port) (u : PortUnit) : (s.setPort p u).passes = s.passes := rfl
@[simp] theorem setPort_batch (s : State) (p : Port) (u : PortUnit) : (s.setPort p u).batch = s.batch := rfl
@[simp] theorem setPort_scanTable (s : State) (p : Port) (u : PortUnit) : (s.setPort p u).scanTable = s.scanTable := rfl
@[simp] theorem setPort_alarms (s : State) (p : Port) (u : PortUnit) : (s.setPort p u).alarms = s.alarms := rfl
@[simp] theorem setPort_hotList (s : State) (p : Port) (u : PortUnit) : (s.setPort p u).hotList = s.hotList := rfl
@[simp] theorem setPort_unlisted (s : State) (p : Port) (u : PortUnit) : (s.setPort p u).unlisted = s.unlisted := rfl
@[simp] theorem setPort_passAlert (s : State) (p : Port) (u : PortUnit) : (s.setPort p u).passAlert = s.passAlert := rfl
@[simp] theorem setPort_dataOut (s : State) (p : Port) (u : PortUnit) : (s.setPort p u).dataOut = s.dataOut := rfl
@[simp] theorem setPort_faults (s : State) (p : Port) (u : PortUnit) : (s.setPort p u).faults = s.faults := rfl
@[simp] theorem setPort_store (s : State) (p : Port) (u : PortUnit) : (s.setPort p u).store = s.store := rfl
@[simp] theorem setPort_flash (s : State) (p : Port) (u : PortUnit) : (s.setPort p u).flash = s.flash := rfl

@[simp] theorem setGroup_pending (s : State) (g : GroupIx) (x : CaptureGroup) : (s.setGroup g x).pending = s.pending := rfl
@[simp] theorem setGroup_stage (s : State) (g : GroupIx) (x : CaptureGroup) : (s.setGroup g x).stage = s.stage := rfl
@[simp] theorem setGroup_cause (s : State) (g : GroupIx) (x : CaptureGroup) : (s.setGroup g x).cause = s.cause := rfl
@[simp] theorem setGroup_restartPending (s : State) (g : GroupIx) (x : CaptureGroup) : (s.setGroup g x).restartPending = s.restartPending := rfl
@[simp] theorem setGroup_strap (s : State) (g : GroupIx) (x : CaptureGroup) : (s.setGroup g x).strap = s.strap := rfl
@[simp] theorem setGroup_pins (s : State) (g : GroupIx) (x : CaptureGroup) : (s.setGroup g x).pins = s.pins := rfl
@[simp] theorem setGroup_hold (s : State) (g : GroupIx) (x : CaptureGroup) : (s.setGroup g x).hold = s.hold := rfl
@[simp] theorem setGroup_timebase (s : State) (g : GroupIx) (x : CaptureGroup) : (s.setGroup g x).timebase = s.timebase := rfl
@[simp] theorem setGroup_readings (s : State) (g : GroupIx) (x : CaptureGroup) : (s.setGroup g x).readings = s.readings := rfl
@[simp] theorem setGroup_active (s : State) (g : GroupIx) (x : CaptureGroup) : (s.setGroup g x).active = s.active := rfl
@[simp] theorem setGroup_edit (s : State) (g : GroupIx) (x : CaptureGroup) : (s.setGroup g x).edit = s.edit := rfl
@[simp] theorem setGroup_completed (s : State) (g : GroupIx) (x : CaptureGroup) : (s.setGroup g x).completed = s.completed := rfl
@[simp] theorem setGroup_nextBoundary (s : State) (g : GroupIx) (x : CaptureGroup) : (s.setGroup g x).nextBoundary = s.nextBoundary := rfl
@[simp] theorem setGroup_sweep (s : State) (g : GroupIx) (x : CaptureGroup) : (s.setGroup g x).sweep = s.sweep := rfl
@[simp] theorem setGroup_published (s : State) (g : GroupIx) (x : CaptureGroup) : (s.setGroup g x).published = s.published := rfl
@[simp] theorem setGroup_working (s : State) (g : GroupIx) (x : CaptureGroup) : (s.setGroup g x).working = s.working := rfl
@[simp] theorem setGroup_passes (s : State) (g : GroupIx) (x : CaptureGroup) : (s.setGroup g x).passes = s.passes := rfl
@[simp] theorem setGroup_batch (s : State) (g : GroupIx) (x : CaptureGroup) : (s.setGroup g x).batch = s.batch := rfl
@[simp] theorem setGroup_scanTable (s : State) (g : GroupIx) (x : CaptureGroup) : (s.setGroup g x).scanTable = s.scanTable := rfl
@[simp] theorem setGroup_alarms (s : State) (g : GroupIx) (x : CaptureGroup) : (s.setGroup g x).alarms = s.alarms := rfl
@[simp] theorem setGroup_hotList (s : State) (g : GroupIx) (x : CaptureGroup) : (s.setGroup g x).hotList = s.hotList := rfl
@[simp] theorem setGroup_unlisted (s : State) (g : GroupIx) (x : CaptureGroup) : (s.setGroup g x).unlisted = s.unlisted := rfl
@[simp] theorem setGroup_passAlert (s : State) (g : GroupIx) (x : CaptureGroup) : (s.setGroup g x).passAlert = s.passAlert := rfl
@[simp] theorem setGroup_ports (s : State) (g : GroupIx) (x : CaptureGroup) : (s.setGroup g x).ports = s.ports := rfl
@[simp] theorem setGroup_dataOut (s : State) (g : GroupIx) (x : CaptureGroup) : (s.setGroup g x).dataOut = s.dataOut := rfl
@[simp] theorem setGroup_faults (s : State) (g : GroupIx) (x : CaptureGroup) : (s.setGroup g x).faults = s.faults := rfl
@[simp] theorem setGroup_store (s : State) (g : GroupIx) (x : CaptureGroup) : (s.setGroup g x).store = s.store := rfl
@[simp] theorem setGroup_flash (s : State) (g : GroupIx) (x : CaptureGroup) : (s.setGroup g x).flash = s.flash := rfl

@[simp] theorem setEdit_pending (s : State) (e : Option EditClaim) : (s.setEdit e).pending = s.pending := rfl
@[simp] theorem setEdit_stage (s : State) (e : Option EditClaim) : (s.setEdit e).stage = s.stage := rfl
@[simp] theorem setEdit_cause (s : State) (e : Option EditClaim) : (s.setEdit e).cause = s.cause := rfl
@[simp] theorem setEdit_restartPending (s : State) (e : Option EditClaim) : (s.setEdit e).restartPending = s.restartPending := rfl
@[simp] theorem setEdit_strap (s : State) (e : Option EditClaim) : (s.setEdit e).strap = s.strap := rfl
@[simp] theorem setEdit_pins (s : State) (e : Option EditClaim) : (s.setEdit e).pins = s.pins := rfl
@[simp] theorem setEdit_hold (s : State) (e : Option EditClaim) : (s.setEdit e).hold = s.hold := rfl
@[simp] theorem setEdit_timebase (s : State) (e : Option EditClaim) : (s.setEdit e).timebase = s.timebase := rfl
@[simp] theorem setEdit_groups (s : State) (e : Option EditClaim) : (s.setEdit e).groups = s.groups := rfl
@[simp] theorem setEdit_readings (s : State) (e : Option EditClaim) : (s.setEdit e).readings = s.readings := rfl
@[simp] theorem setEdit_active (s : State) (e : Option EditClaim) : (s.setEdit e).active = s.active := rfl
@[simp] theorem setEdit_completed (s : State) (e : Option EditClaim) : (s.setEdit e).completed = s.completed := rfl
@[simp] theorem setEdit_nextBoundary (s : State) (e : Option EditClaim) : (s.setEdit e).nextBoundary = s.nextBoundary := rfl
@[simp] theorem setEdit_sweep (s : State) (e : Option EditClaim) : (s.setEdit e).sweep = s.sweep := rfl
@[simp] theorem setEdit_published (s : State) (e : Option EditClaim) : (s.setEdit e).published = s.published := rfl
@[simp] theorem setEdit_working (s : State) (e : Option EditClaim) : (s.setEdit e).working = s.working := rfl
@[simp] theorem setEdit_passes (s : State) (e : Option EditClaim) : (s.setEdit e).passes = s.passes := rfl
@[simp] theorem setEdit_batch (s : State) (e : Option EditClaim) : (s.setEdit e).batch = s.batch := rfl
@[simp] theorem setEdit_scanTable (s : State) (e : Option EditClaim) : (s.setEdit e).scanTable = s.scanTable := rfl
@[simp] theorem setEdit_alarms (s : State) (e : Option EditClaim) : (s.setEdit e).alarms = s.alarms := rfl
@[simp] theorem setEdit_hotList (s : State) (e : Option EditClaim) : (s.setEdit e).hotList = s.hotList := rfl
@[simp] theorem setEdit_unlisted (s : State) (e : Option EditClaim) : (s.setEdit e).unlisted = s.unlisted := rfl
@[simp] theorem setEdit_passAlert (s : State) (e : Option EditClaim) : (s.setEdit e).passAlert = s.passAlert := rfl
@[simp] theorem setEdit_ports (s : State) (e : Option EditClaim) : (s.setEdit e).ports = s.ports := rfl
@[simp] theorem setEdit_dataOut (s : State) (e : Option EditClaim) : (s.setEdit e).dataOut = s.dataOut := rfl
@[simp] theorem setEdit_faults (s : State) (e : Option EditClaim) : (s.setEdit e).faults = s.faults := rfl
@[simp] theorem setEdit_store (s : State) (e : Option EditClaim) : (s.setEdit e).store = s.store := rfl
@[simp] theorem setEdit_flash (s : State) (e : Option EditClaim) : (s.setEdit e).flash = s.flash := rfl

@[simp] theorem notify_pending (p : Port) (n : Notice) (s : State) : (notify p n s).pending = s.pending := rfl
@[simp] theorem notify_stage (p : Port) (n : Notice) (s : State) : (notify p n s).stage = s.stage := rfl
@[simp] theorem notify_cause (p : Port) (n : Notice) (s : State) : (notify p n s).cause = s.cause := rfl
@[simp] theorem notify_restartPending (p : Port) (n : Notice) (s : State) : (notify p n s).restartPending = s.restartPending := rfl
@[simp] theorem notify_strap (p : Port) (n : Notice) (s : State) : (notify p n s).strap = s.strap := rfl
@[simp] theorem notify_pins (p : Port) (n : Notice) (s : State) : (notify p n s).pins = s.pins := rfl
@[simp] theorem notify_hold (p : Port) (n : Notice) (s : State) : (notify p n s).hold = s.hold := rfl
@[simp] theorem notify_timebase (p : Port) (n : Notice) (s : State) : (notify p n s).timebase = s.timebase := rfl
@[simp] theorem notify_groups (p : Port) (n : Notice) (s : State) : (notify p n s).groups = s.groups := rfl
@[simp] theorem notify_readings (p : Port) (n : Notice) (s : State) : (notify p n s).readings = s.readings := rfl
@[simp] theorem notify_active (p : Port) (n : Notice) (s : State) : (notify p n s).active = s.active := rfl
@[simp] theorem notify_edit (p : Port) (n : Notice) (s : State) : (notify p n s).edit = s.edit := rfl
@[simp] theorem notify_completed (p : Port) (n : Notice) (s : State) : (notify p n s).completed = s.completed := rfl
@[simp] theorem notify_nextBoundary (p : Port) (n : Notice) (s : State) : (notify p n s).nextBoundary = s.nextBoundary := rfl
@[simp] theorem notify_sweep (p : Port) (n : Notice) (s : State) : (notify p n s).sweep = s.sweep := rfl
@[simp] theorem notify_published (p : Port) (n : Notice) (s : State) : (notify p n s).published = s.published := rfl
@[simp] theorem notify_working (p : Port) (n : Notice) (s : State) : (notify p n s).working = s.working := rfl
@[simp] theorem notify_passes (p : Port) (n : Notice) (s : State) : (notify p n s).passes = s.passes := rfl
@[simp] theorem notify_batch (p : Port) (n : Notice) (s : State) : (notify p n s).batch = s.batch := rfl
@[simp] theorem notify_scanTable (p : Port) (n : Notice) (s : State) : (notify p n s).scanTable = s.scanTable := rfl
@[simp] theorem notify_alarms (p : Port) (n : Notice) (s : State) : (notify p n s).alarms = s.alarms := rfl
@[simp] theorem notify_hotList (p : Port) (n : Notice) (s : State) : (notify p n s).hotList = s.hotList := rfl
@[simp] theorem notify_unlisted (p : Port) (n : Notice) (s : State) : (notify p n s).unlisted = s.unlisted := rfl
@[simp] theorem notify_passAlert (p : Port) (n : Notice) (s : State) : (notify p n s).passAlert = s.passAlert := rfl
@[simp] theorem notify_dataOut (p : Port) (n : Notice) (s : State) : (notify p n s).dataOut = s.dataOut := rfl
@[simp] theorem notify_faults (p : Port) (n : Notice) (s : State) : (notify p n s).faults = s.faults := rfl
@[simp] theorem notify_store (p : Port) (n : Notice) (s : State) : (notify p n s).store = s.store := rfl
@[simp] theorem notify_flash (p : Port) (n : Notice) (s : State) : (notify p n s).flash = s.flash := rfl

@[simp] theorem notifyAll_pending (n : Notice) (s : State) : (notifyAll n s).pending = s.pending := rfl
@[simp] theorem notifyAll_stage (n : Notice) (s : State) : (notifyAll n s).stage = s.stage := rfl
@[simp] theorem notifyAll_cause (n : Notice) (s : State) : (notifyAll n s).cause = s.cause := rfl
@[simp] theorem notifyAll_restartPending (n : Notice) (s : State) : (notifyAll n s).restartPending = s.restartPending := rfl
@[simp] theorem notifyAll_strap (n : Notice) (s : State) : (notifyAll n s).strap = s.strap := rfl
@[simp] theorem notifyAll_pins (n : Notice) (s : State) : (notifyAll n s).pins = s.pins := rfl
@[simp] theorem notifyAll_hold (n : Notice) (s : State) : (notifyAll n s).hold = s.hold := rfl
@[simp] theorem notifyAll_timebase (n : Notice) (s : State) : (notifyAll n s).timebase = s.timebase := rfl
@[simp] theorem notifyAll_groups (n : Notice) (s : State) : (notifyAll n s).groups = s.groups := rfl
@[simp] theorem notifyAll_readings (n : Notice) (s : State) : (notifyAll n s).readings = s.readings := rfl
@[simp] theorem notifyAll_active (n : Notice) (s : State) : (notifyAll n s).active = s.active := rfl
@[simp] theorem notifyAll_edit (n : Notice) (s : State) : (notifyAll n s).edit = s.edit := rfl
@[simp] theorem notifyAll_completed (n : Notice) (s : State) : (notifyAll n s).completed = s.completed := rfl
@[simp] theorem notifyAll_nextBoundary (n : Notice) (s : State) : (notifyAll n s).nextBoundary = s.nextBoundary := rfl
@[simp] theorem notifyAll_sweep (n : Notice) (s : State) : (notifyAll n s).sweep = s.sweep := rfl
@[simp] theorem notifyAll_published (n : Notice) (s : State) : (notifyAll n s).published = s.published := rfl
@[simp] theorem notifyAll_working (n : Notice) (s : State) : (notifyAll n s).working = s.working := rfl
@[simp] theorem notifyAll_passes (n : Notice) (s : State) : (notifyAll n s).passes = s.passes := rfl
@[simp] theorem notifyAll_batch (n : Notice) (s : State) : (notifyAll n s).batch = s.batch := rfl
@[simp] theorem notifyAll_scanTable (n : Notice) (s : State) : (notifyAll n s).scanTable = s.scanTable := rfl
@[simp] theorem notifyAll_alarms (n : Notice) (s : State) : (notifyAll n s).alarms = s.alarms := rfl
@[simp] theorem notifyAll_hotList (n : Notice) (s : State) : (notifyAll n s).hotList = s.hotList := rfl
@[simp] theorem notifyAll_unlisted (n : Notice) (s : State) : (notifyAll n s).unlisted = s.unlisted := rfl
@[simp] theorem notifyAll_passAlert (n : Notice) (s : State) : (notifyAll n s).passAlert = s.passAlert := rfl
@[simp] theorem notifyAll_dataOut (n : Notice) (s : State) : (notifyAll n s).dataOut = s.dataOut := rfl
@[simp] theorem notifyAll_faults (n : Notice) (s : State) : (notifyAll n s).faults = s.faults := rfl
@[simp] theorem notifyAll_store (n : Notice) (s : State) : (notifyAll n s).store = s.store := rfl
@[simp] theorem notifyAll_flash (n : Notice) (s : State) : (notifyAll n s).flash = s.flash := rfl

@[simp] theorem retain_pending (f : HoldContents → HoldContents) (s : State) : (retain f s).pending = s.pending := rfl
@[simp] theorem retain_stage (f : HoldContents → HoldContents) (s : State) : (retain f s).stage = s.stage := rfl
@[simp] theorem retain_cause (f : HoldContents → HoldContents) (s : State) : (retain f s).cause = s.cause := rfl
@[simp] theorem retain_restartPending (f : HoldContents → HoldContents) (s : State) : (retain f s).restartPending = s.restartPending := rfl
@[simp] theorem retain_strap (f : HoldContents → HoldContents) (s : State) : (retain f s).strap = s.strap := rfl
@[simp] theorem retain_pins (f : HoldContents → HoldContents) (s : State) : (retain f s).pins = s.pins := rfl
@[simp] theorem retain_timebase (f : HoldContents → HoldContents) (s : State) : (retain f s).timebase = s.timebase := rfl
@[simp] theorem retain_groups (f : HoldContents → HoldContents) (s : State) : (retain f s).groups = s.groups := rfl
@[simp] theorem retain_readings (f : HoldContents → HoldContents) (s : State) : (retain f s).readings = s.readings := rfl
@[simp] theorem retain_active (f : HoldContents → HoldContents) (s : State) : (retain f s).active = s.active := rfl
@[simp] theorem retain_edit (f : HoldContents → HoldContents) (s : State) : (retain f s).edit = s.edit := rfl
@[simp] theorem retain_completed (f : HoldContents → HoldContents) (s : State) : (retain f s).completed = s.completed := rfl
@[simp] theorem retain_nextBoundary (f : HoldContents → HoldContents) (s : State) : (retain f s).nextBoundary = s.nextBoundary := rfl
@[simp] theorem retain_sweep (f : HoldContents → HoldContents) (s : State) : (retain f s).sweep = s.sweep := rfl
@[simp] theorem retain_published (f : HoldContents → HoldContents) (s : State) : (retain f s).published = s.published := rfl
@[simp] theorem retain_working (f : HoldContents → HoldContents) (s : State) : (retain f s).working = s.working := rfl
@[simp] theorem retain_passes (f : HoldContents → HoldContents) (s : State) : (retain f s).passes = s.passes := rfl
@[simp] theorem retain_batch (f : HoldContents → HoldContents) (s : State) : (retain f s).batch = s.batch := rfl
@[simp] theorem retain_scanTable (f : HoldContents → HoldContents) (s : State) : (retain f s).scanTable = s.scanTable := rfl
@[simp] theorem retain_alarms (f : HoldContents → HoldContents) (s : State) : (retain f s).alarms = s.alarms := rfl
@[simp] theorem retain_hotList (f : HoldContents → HoldContents) (s : State) : (retain f s).hotList = s.hotList := rfl
@[simp] theorem retain_unlisted (f : HoldContents → HoldContents) (s : State) : (retain f s).unlisted = s.unlisted := rfl
@[simp] theorem retain_passAlert (f : HoldContents → HoldContents) (s : State) : (retain f s).passAlert = s.passAlert := rfl
@[simp] theorem retain_ports (f : HoldContents → HoldContents) (s : State) : (retain f s).ports = s.ports := rfl
@[simp] theorem retain_dataOut (f : HoldContents → HoldContents) (s : State) : (retain f s).dataOut = s.dataOut := rfl
@[simp] theorem retain_faults (f : HoldContents → HoldContents) (s : State) : (retain f s).faults = s.faults := rfl
@[simp] theorem retain_store (f : HoldContents → HoldContents) (s : State) : (retain f s).store = s.store := rfl
@[simp] theorem retain_flash (f : HoldContents → HoldContents) (s : State) : (retain f s).flash = s.flash := rfl

@[simp] theorem driveOut_pending (p : Port) (bytes : List Byte) (s : State) : (driveOut p bytes s).pending = s.pending := rfl
@[simp] theorem driveOut_stage (p : Port) (bytes : List Byte) (s : State) : (driveOut p bytes s).stage = s.stage := rfl
@[simp] theorem driveOut_cause (p : Port) (bytes : List Byte) (s : State) : (driveOut p bytes s).cause = s.cause := rfl
@[simp] theorem driveOut_restartPending (p : Port) (bytes : List Byte) (s : State) : (driveOut p bytes s).restartPending = s.restartPending := rfl
@[simp] theorem driveOut_strap (p : Port) (bytes : List Byte) (s : State) : (driveOut p bytes s).strap = s.strap := rfl
@[simp] theorem driveOut_pins (p : Port) (bytes : List Byte) (s : State) : (driveOut p bytes s).pins = s.pins := rfl
@[simp] theorem driveOut_hold (p : Port) (bytes : List Byte) (s : State) : (driveOut p bytes s).hold = s.hold := rfl
@[simp] theorem driveOut_timebase (p : Port) (bytes : List Byte) (s : State) : (driveOut p bytes s).timebase = s.timebase := rfl
@[simp] theorem driveOut_groups (p : Port) (bytes : List Byte) (s : State) : (driveOut p bytes s).groups = s.groups := rfl
@[simp] theorem driveOut_readings (p : Port) (bytes : List Byte) (s : State) : (driveOut p bytes s).readings = s.readings := rfl
@[simp] theorem driveOut_active (p : Port) (bytes : List Byte) (s : State) : (driveOut p bytes s).active = s.active := rfl
@[simp] theorem driveOut_edit (p : Port) (bytes : List Byte) (s : State) : (driveOut p bytes s).edit = s.edit := rfl
@[simp] theorem driveOut_completed (p : Port) (bytes : List Byte) (s : State) : (driveOut p bytes s).completed = s.completed := rfl
@[simp] theorem driveOut_nextBoundary (p : Port) (bytes : List Byte) (s : State) : (driveOut p bytes s).nextBoundary = s.nextBoundary := rfl
@[simp] theorem driveOut_sweep (p : Port) (bytes : List Byte) (s : State) : (driveOut p bytes s).sweep = s.sweep := rfl
@[simp] theorem driveOut_published (p : Port) (bytes : List Byte) (s : State) : (driveOut p bytes s).published = s.published := rfl
@[simp] theorem driveOut_working (p : Port) (bytes : List Byte) (s : State) : (driveOut p bytes s).working = s.working := rfl
@[simp] theorem driveOut_passes (p : Port) (bytes : List Byte) (s : State) : (driveOut p bytes s).passes = s.passes := rfl
@[simp] theorem driveOut_batch (p : Port) (bytes : List Byte) (s : State) : (driveOut p bytes s).batch = s.batch := rfl
@[simp] theorem driveOut_scanTable (p : Port) (bytes : List Byte) (s : State) : (driveOut p bytes s).scanTable = s.scanTable := rfl
@[simp] theorem driveOut_alarms (p : Port) (bytes : List Byte) (s : State) : (driveOut p bytes s).alarms = s.alarms := rfl
@[simp] theorem driveOut_hotList (p : Port) (bytes : List Byte) (s : State) : (driveOut p bytes s).hotList = s.hotList := rfl
@[simp] theorem driveOut_unlisted (p : Port) (bytes : List Byte) (s : State) : (driveOut p bytes s).unlisted = s.unlisted := rfl
@[simp] theorem driveOut_passAlert (p : Port) (bytes : List Byte) (s : State) : (driveOut p bytes s).passAlert = s.passAlert := rfl
@[simp] theorem driveOut_ports (p : Port) (bytes : List Byte) (s : State) : (driveOut p bytes s).ports = s.ports := rfl
@[simp] theorem driveOut_faults (p : Port) (bytes : List Byte) (s : State) : (driveOut p bytes s).faults = s.faults := rfl
@[simp] theorem driveOut_store (p : Port) (bytes : List Byte) (s : State) : (driveOut p bytes s).store = s.store := rfl
@[simp] theorem driveOut_flash (p : Port) (bytes : List Byte) (s : State) : (driveOut p bytes s).flash = s.flash := rfl

@[simp] theorem answerSlot_pending (p : Port) (req : Request) (r : Reply) (s : State) : (answerSlot p req r s).pending = s.pending := rfl
@[simp] theorem answerSlot_stage (p : Port) (req : Request) (r : Reply) (s : State) : (answerSlot p req r s).stage = s.stage := rfl
@[simp] theorem answerSlot_cause (p : Port) (req : Request) (r : Reply) (s : State) : (answerSlot p req r s).cause = s.cause := rfl
@[simp] theorem answerSlot_restartPending (p : Port) (req : Request) (r : Reply) (s : State) : (answerSlot p req r s).restartPending = s.restartPending := rfl
@[simp] theorem answerSlot_strap (p : Port) (req : Request) (r : Reply) (s : State) : (answerSlot p req r s).strap = s.strap := rfl
@[simp] theorem answerSlot_pins (p : Port) (req : Request) (r : Reply) (s : State) : (answerSlot p req r s).pins = s.pins := rfl
@[simp] theorem answerSlot_hold (p : Port) (req : Request) (r : Reply) (s : State) : (answerSlot p req r s).hold = s.hold := rfl
@[simp] theorem answerSlot_timebase (p : Port) (req : Request) (r : Reply) (s : State) : (answerSlot p req r s).timebase = s.timebase := rfl
@[simp] theorem answerSlot_groups (p : Port) (req : Request) (r : Reply) (s : State) : (answerSlot p req r s).groups = s.groups := rfl
@[simp] theorem answerSlot_readings (p : Port) (req : Request) (r : Reply) (s : State) : (answerSlot p req r s).readings = s.readings := rfl
@[simp] theorem answerSlot_active (p : Port) (req : Request) (r : Reply) (s : State) : (answerSlot p req r s).active = s.active := rfl
@[simp] theorem answerSlot_edit (p : Port) (req : Request) (r : Reply) (s : State) : (answerSlot p req r s).edit = s.edit := rfl
@[simp] theorem answerSlot_completed (p : Port) (req : Request) (r : Reply) (s : State) : (answerSlot p req r s).completed = s.completed := rfl
@[simp] theorem answerSlot_nextBoundary (p : Port) (req : Request) (r : Reply) (s : State) : (answerSlot p req r s).nextBoundary = s.nextBoundary := rfl
@[simp] theorem answerSlot_sweep (p : Port) (req : Request) (r : Reply) (s : State) : (answerSlot p req r s).sweep = s.sweep := rfl
@[simp] theorem answerSlot_published (p : Port) (req : Request) (r : Reply) (s : State) : (answerSlot p req r s).published = s.published := rfl
@[simp] theorem answerSlot_working (p : Port) (req : Request) (r : Reply) (s : State) : (answerSlot p req r s).working = s.working := rfl
@[simp] theorem answerSlot_passes (p : Port) (req : Request) (r : Reply) (s : State) : (answerSlot p req r s).passes = s.passes := rfl
@[simp] theorem answerSlot_batch (p : Port) (req : Request) (r : Reply) (s : State) : (answerSlot p req r s).batch = s.batch := rfl
@[simp] theorem answerSlot_scanTable (p : Port) (req : Request) (r : Reply) (s : State) : (answerSlot p req r s).scanTable = s.scanTable := rfl
@[simp] theorem answerSlot_alarms (p : Port) (req : Request) (r : Reply) (s : State) : (answerSlot p req r s).alarms = s.alarms := rfl
@[simp] theorem answerSlot_hotList (p : Port) (req : Request) (r : Reply) (s : State) : (answerSlot p req r s).hotList = s.hotList := rfl
@[simp] theorem answerSlot_unlisted (p : Port) (req : Request) (r : Reply) (s : State) : (answerSlot p req r s).unlisted = s.unlisted := rfl
@[simp] theorem answerSlot_passAlert (p : Port) (req : Request) (r : Reply) (s : State) : (answerSlot p req r s).passAlert = s.passAlert := rfl
@[simp] theorem answerSlot_dataOut (p : Port) (req : Request) (r : Reply) (s : State) : (answerSlot p req r s).dataOut = s.dataOut := rfl
@[simp] theorem answerSlot_faults (p : Port) (req : Request) (r : Reply) (s : State) : (answerSlot p req r s).faults = s.faults := rfl
@[simp] theorem answerSlot_store (p : Port) (req : Request) (r : Reply) (s : State) : (answerSlot p req r s).store = s.store := rfl
@[simp] theorem answerSlot_flash (p : Port) (req : Request) (r : Reply) (s : State) : (answerSlot p req r s).flash = s.flash := rfl

@[simp] theorem rebuildHotList_pending (s : State) : (rebuildHotList s).pending = s.pending := by
  simp only [rebuildHotList]
@[simp] theorem rebuildHotList_stage (s : State) : (rebuildHotList s).stage = s.stage := by
  simp only [rebuildHotList]
@[simp] theorem rebuildHotList_cause (s : State) : (rebuildHotList s).cause = s.cause := by
  simp only [rebuildHotList]
@[simp] theorem rebuildHotList_restartPending (s : State) : (rebuildHotList s).restartPending = s.restartPending := by
  simp only [rebuildHotList]
@[simp] theorem rebuildHotList_strap (s : State) : (rebuildHotList s).strap = s.strap := by
  simp only [rebuildHotList]
@[simp] theorem rebuildHotList_pins (s : State) : (rebuildHotList s).pins = s.pins := by
  simp only [rebuildHotList]
@[simp] theorem rebuildHotList_hold (s : State) : (rebuildHotList s).hold = s.hold := by
  simp only [rebuildHotList]
@[simp] theorem rebuildHotList_timebase (s : State) : (rebuildHotList s).timebase = s.timebase := by
  simp only [rebuildHotList]
@[simp] theorem rebuildHotList_groups (s : State) : (rebuildHotList s).groups = s.groups := by
  simp only [rebuildHotList]
@[simp] theorem rebuildHotList_readings (s : State) : (rebuildHotList s).readings = s.readings := by
  simp only [rebuildHotList]
@[simp] theorem rebuildHotList_active (s : State) : (rebuildHotList s).active = s.active := by
  simp only [rebuildHotList]
@[simp] theorem rebuildHotList_edit (s : State) : (rebuildHotList s).edit = s.edit := by
  simp only [rebuildHotList]
@[simp] theorem rebuildHotList_completed (s : State) : (rebuildHotList s).completed = s.completed := by
  simp only [rebuildHotList]
@[simp] theorem rebuildHotList_nextBoundary (s : State) : (rebuildHotList s).nextBoundary = s.nextBoundary := by
  simp only [rebuildHotList]
@[simp] theorem rebuildHotList_sweep (s : State) : (rebuildHotList s).sweep = s.sweep := by
  simp only [rebuildHotList]
@[simp] theorem rebuildHotList_published (s : State) : (rebuildHotList s).published = s.published := by
  simp only [rebuildHotList]
@[simp] theorem rebuildHotList_working (s : State) : (rebuildHotList s).working = s.working := by
  simp only [rebuildHotList]
@[simp] theorem rebuildHotList_passes (s : State) : (rebuildHotList s).passes = s.passes := by
  simp only [rebuildHotList]
@[simp] theorem rebuildHotList_batch (s : State) : (rebuildHotList s).batch = s.batch := by
  simp only [rebuildHotList]
@[simp] theorem rebuildHotList_scanTable (s : State) : (rebuildHotList s).scanTable = s.scanTable := by
  simp only [rebuildHotList]
@[simp] theorem rebuildHotList_alarms (s : State) : (rebuildHotList s).alarms = s.alarms := by
  simp only [rebuildHotList]
@[simp] theorem rebuildHotList_passAlert (s : State) : (rebuildHotList s).passAlert = s.passAlert := by
  simp only [rebuildHotList]
@[simp] theorem rebuildHotList_ports (s : State) : (rebuildHotList s).ports = s.ports := by
  simp only [rebuildHotList]
@[simp] theorem rebuildHotList_dataOut (s : State) : (rebuildHotList s).dataOut = s.dataOut := by
  simp only [rebuildHotList]
@[simp] theorem rebuildHotList_faults (s : State) : (rebuildHotList s).faults = s.faults := by
  simp only [rebuildHotList]
@[simp] theorem rebuildHotList_store (s : State) : (rebuildHotList s).store = s.store := by
  simp only [rebuildHotList]
@[simp] theorem rebuildHotList_flash (s : State) : (rebuildHotList s).flash = s.flash := by
  simp only [rebuildHotList]

@[simp] theorem driveAlert_pending (p : PassIx) (s : State) : (driveAlert p s).pending = s.pending := rfl
@[simp] theorem driveAlert_stage (p : PassIx) (s : State) : (driveAlert p s).stage = s.stage := rfl
@[simp] theorem driveAlert_cause (p : PassIx) (s : State) : (driveAlert p s).cause = s.cause := rfl
@[simp] theorem driveAlert_restartPending (p : PassIx) (s : State) : (driveAlert p s).restartPending = s.restartPending := rfl
@[simp] theorem driveAlert_strap (p : PassIx) (s : State) : (driveAlert p s).strap = s.strap := rfl
@[simp] theorem driveAlert_pins (p : PassIx) (s : State) : (driveAlert p s).pins = s.pins := rfl
@[simp] theorem driveAlert_hold (p : PassIx) (s : State) : (driveAlert p s).hold = s.hold := rfl
@[simp] theorem driveAlert_timebase (p : PassIx) (s : State) : (driveAlert p s).timebase = s.timebase := rfl
@[simp] theorem driveAlert_groups (p : PassIx) (s : State) : (driveAlert p s).groups = s.groups := rfl
@[simp] theorem driveAlert_readings (p : PassIx) (s : State) : (driveAlert p s).readings = s.readings := rfl
@[simp] theorem driveAlert_active (p : PassIx) (s : State) : (driveAlert p s).active = s.active := rfl
@[simp] theorem driveAlert_edit (p : PassIx) (s : State) : (driveAlert p s).edit = s.edit := rfl
@[simp] theorem driveAlert_completed (p : PassIx) (s : State) : (driveAlert p s).completed = s.completed := rfl
@[simp] theorem driveAlert_nextBoundary (p : PassIx) (s : State) : (driveAlert p s).nextBoundary = s.nextBoundary := rfl
@[simp] theorem driveAlert_sweep (p : PassIx) (s : State) : (driveAlert p s).sweep = s.sweep := rfl
@[simp] theorem driveAlert_published (p : PassIx) (s : State) : (driveAlert p s).published = s.published := rfl
@[simp] theorem driveAlert_working (p : PassIx) (s : State) : (driveAlert p s).working = s.working := rfl
@[simp] theorem driveAlert_passes (p : PassIx) (s : State) : (driveAlert p s).passes = s.passes := rfl
@[simp] theorem driveAlert_batch (p : PassIx) (s : State) : (driveAlert p s).batch = s.batch := rfl
@[simp] theorem driveAlert_scanTable (p : PassIx) (s : State) : (driveAlert p s).scanTable = s.scanTable := rfl
@[simp] theorem driveAlert_alarms (p : PassIx) (s : State) : (driveAlert p s).alarms = s.alarms := rfl
@[simp] theorem driveAlert_hotList (p : PassIx) (s : State) : (driveAlert p s).hotList = s.hotList := rfl
@[simp] theorem driveAlert_unlisted (p : PassIx) (s : State) : (driveAlert p s).unlisted = s.unlisted := rfl
@[simp] theorem driveAlert_ports (p : PassIx) (s : State) : (driveAlert p s).ports = s.ports := rfl
@[simp] theorem driveAlert_dataOut (p : PassIx) (s : State) : (driveAlert p s).dataOut = s.dataOut := rfl
@[simp] theorem driveAlert_faults (p : PassIx) (s : State) : (driveAlert p s).faults = s.faults := rfl
@[simp] theorem driveAlert_store (p : PassIx) (s : State) : (driveAlert p s).store = s.store := rfl
@[simp] theorem driveAlert_flash (p : PassIx) (s : State) : (driveAlert p s).flash = s.flash := rfl

@[simp] theorem changeTimebase_pending (t : Timebase) (s : State) : (changeTimebase t s).pending = s.pending := rfl
@[simp] theorem changeTimebase_stage (t : Timebase) (s : State) : (changeTimebase t s).stage = s.stage := rfl
@[simp] theorem changeTimebase_cause (t : Timebase) (s : State) : (changeTimebase t s).cause = s.cause := rfl
@[simp] theorem changeTimebase_restartPending (t : Timebase) (s : State) : (changeTimebase t s).restartPending = s.restartPending := rfl
@[simp] theorem changeTimebase_strap (t : Timebase) (s : State) : (changeTimebase t s).strap = s.strap := rfl
@[simp] theorem changeTimebase_pins (t : Timebase) (s : State) : (changeTimebase t s).pins = s.pins := rfl
@[simp] theorem changeTimebase_hold (t : Timebase) (s : State) : (changeTimebase t s).hold = s.hold := rfl
@[simp] theorem changeTimebase_groups (t : Timebase) (s : State) : (changeTimebase t s).groups = s.groups := rfl
@[simp] theorem changeTimebase_readings (t : Timebase) (s : State) : (changeTimebase t s).readings = s.readings := rfl
@[simp] theorem changeTimebase_active (t : Timebase) (s : State) : (changeTimebase t s).active = s.active := rfl
@[simp] theorem changeTimebase_edit (t : Timebase) (s : State) : (changeTimebase t s).edit = s.edit := rfl
@[simp] theorem changeTimebase_completed (t : Timebase) (s : State) : (changeTimebase t s).completed = s.completed := rfl
@[simp] theorem changeTimebase_nextBoundary (t : Timebase) (s : State) : (changeTimebase t s).nextBoundary = s.nextBoundary := rfl
@[simp] theorem changeTimebase_sweep (t : Timebase) (s : State) : (changeTimebase t s).sweep = s.sweep := rfl
@[simp] theorem changeTimebase_published (t : Timebase) (s : State) : (changeTimebase t s).published = s.published := rfl
@[simp] theorem changeTimebase_working (t : Timebase) (s : State) : (changeTimebase t s).working = s.working := rfl
@[simp] theorem changeTimebase_passes (t : Timebase) (s : State) : (changeTimebase t s).passes = s.passes := rfl
@[simp] theorem changeTimebase_batch (t : Timebase) (s : State) : (changeTimebase t s).batch = s.batch := rfl
@[simp] theorem changeTimebase_scanTable (t : Timebase) (s : State) : (changeTimebase t s).scanTable = s.scanTable := rfl
@[simp] theorem changeTimebase_alarms (t : Timebase) (s : State) : (changeTimebase t s).alarms = s.alarms := rfl
@[simp] theorem changeTimebase_hotList (t : Timebase) (s : State) : (changeTimebase t s).hotList = s.hotList := rfl
@[simp] theorem changeTimebase_unlisted (t : Timebase) (s : State) : (changeTimebase t s).unlisted = s.unlisted := rfl
@[simp] theorem changeTimebase_passAlert (t : Timebase) (s : State) : (changeTimebase t s).passAlert = s.passAlert := rfl
@[simp] theorem changeTimebase_dataOut (t : Timebase) (s : State) : (changeTimebase t s).dataOut = s.dataOut := rfl
@[simp] theorem changeTimebase_faults (t : Timebase) (s : State) : (changeTimebase t s).faults = s.faults := rfl
@[simp] theorem changeTimebase_store (t : Timebase) (s : State) : (changeTimebase t s).store = s.store := rfl
@[simp] theorem changeTimebase_flash (t : Timebase) (s : State) : (changeTimebase t s).flash = s.flash := rfl

@[simp] theorem handFault_pending (src : FaultSource) (kind : FaultKind) (detail : Detail) (s : State) :
    (handFault src kind detail s).pending = s.pending := by
  unfold handFault; dsimp only; split <;> rfl
@[simp] theorem handFault_stage (src : FaultSource) (kind : FaultKind) (detail : Detail) (s : State) :
    (handFault src kind detail s).stage = s.stage := by
  unfold handFault; dsimp only; split <;> rfl
@[simp] theorem handFault_cause (src : FaultSource) (kind : FaultKind) (detail : Detail) (s : State) :
    (handFault src kind detail s).cause = s.cause := by
  unfold handFault; dsimp only; split <;> rfl
@[simp] theorem handFault_restartPending (src : FaultSource) (kind : FaultKind) (detail : Detail) (s : State) :
    (handFault src kind detail s).restartPending = s.restartPending := by
  unfold handFault; dsimp only; split <;> rfl
@[simp] theorem handFault_strap (src : FaultSource) (kind : FaultKind) (detail : Detail) (s : State) :
    (handFault src kind detail s).strap = s.strap := by
  unfold handFault; dsimp only; split <;> rfl
@[simp] theorem handFault_pins (src : FaultSource) (kind : FaultKind) (detail : Detail) (s : State) :
    (handFault src kind detail s).pins = s.pins := by
  unfold handFault; dsimp only; split <;> rfl
@[simp] theorem handFault_hold (src : FaultSource) (kind : FaultKind) (detail : Detail) (s : State) :
    (handFault src kind detail s).hold = s.hold := by
  unfold handFault; dsimp only; split <;> rfl
@[simp] theorem handFault_timebase (src : FaultSource) (kind : FaultKind) (detail : Detail) (s : State) :
    (handFault src kind detail s).timebase = s.timebase := by
  unfold handFault; dsimp only; split <;> rfl
@[simp] theorem handFault_groups (src : FaultSource) (kind : FaultKind) (detail : Detail) (s : State) :
    (handFault src kind detail s).groups = s.groups := by
  unfold handFault; dsimp only; split <;> rfl
@[simp] theorem handFault_readings (src : FaultSource) (kind : FaultKind) (detail : Detail) (s : State) :
    (handFault src kind detail s).readings = s.readings := by
  unfold handFault; dsimp only; split <;> rfl
@[simp] theorem handFault_active (src : FaultSource) (kind : FaultKind) (detail : Detail) (s : State) :
    (handFault src kind detail s).active = s.active := by
  unfold handFault; dsimp only; split <;> rfl
@[simp] theorem handFault_edit (src : FaultSource) (kind : FaultKind) (detail : Detail) (s : State) :
    (handFault src kind detail s).edit = s.edit := by
  unfold handFault; dsimp only; split <;> rfl
@[simp] theorem handFault_completed (src : FaultSource) (kind : FaultKind) (detail : Detail) (s : State) :
    (handFault src kind detail s).completed = s.completed := by
  unfold handFault; dsimp only; split <;> rfl
@[simp] theorem handFault_nextBoundary (src : FaultSource) (kind : FaultKind) (detail : Detail) (s : State) :
    (handFault src kind detail s).nextBoundary = s.nextBoundary := by
  unfold handFault; dsimp only; split <;> rfl
@[simp] theorem handFault_sweep (src : FaultSource) (kind : FaultKind) (detail : Detail) (s : State) :
    (handFault src kind detail s).sweep = s.sweep := by
  unfold handFault; dsimp only; split <;> rfl
@[simp] theorem handFault_published (src : FaultSource) (kind : FaultKind) (detail : Detail) (s : State) :
    (handFault src kind detail s).published = s.published := by
  unfold handFault; dsimp only; split <;> rfl
@[simp] theorem handFault_working (src : FaultSource) (kind : FaultKind) (detail : Detail) (s : State) :
    (handFault src kind detail s).working = s.working := by
  unfold handFault; dsimp only; split <;> rfl
@[simp] theorem handFault_passes (src : FaultSource) (kind : FaultKind) (detail : Detail) (s : State) :
    (handFault src kind detail s).passes = s.passes := by
  unfold handFault; dsimp only; split <;> rfl
@[simp] theorem handFault_batch (src : FaultSource) (kind : FaultKind) (detail : Detail) (s : State) :
    (handFault src kind detail s).batch = s.batch := by
  unfold handFault; dsimp only; split <;> rfl
@[simp] theorem handFault_scanTable (src : FaultSource) (kind : FaultKind) (detail : Detail) (s : State) :
    (handFault src kind detail s).scanTable = s.scanTable := by
  unfold handFault; dsimp only; split <;> rfl
@[simp] theorem handFault_alarms (src : FaultSource) (kind : FaultKind) (detail : Detail) (s : State) :
    (handFault src kind detail s).alarms = s.alarms := by
  unfold handFault; dsimp only; split <;> rfl
@[simp] theorem handFault_hotList (src : FaultSource) (kind : FaultKind) (detail : Detail) (s : State) :
    (handFault src kind detail s).hotList = s.hotList := by
  unfold handFault; dsimp only; split <;> rfl
@[simp] theorem handFault_unlisted (src : FaultSource) (kind : FaultKind) (detail : Detail) (s : State) :
    (handFault src kind detail s).unlisted = s.unlisted := by
  unfold handFault; dsimp only; split <;> rfl
@[simp] theorem handFault_passAlert (src : FaultSource) (kind : FaultKind) (detail : Detail) (s : State) :
    (handFault src kind detail s).passAlert = s.passAlert := by
  unfold handFault; dsimp only; split <;> rfl
@[simp] theorem handFault_dataOut (src : FaultSource) (kind : FaultKind) (detail : Detail) (s : State) :
    (handFault src kind detail s).dataOut = s.dataOut := by
  unfold handFault; dsimp only; split <;> rfl
@[simp] theorem handFault_store (src : FaultSource) (kind : FaultKind) (detail : Detail) (s : State) :
    (handFault src kind detail s).store = s.store := by
  unfold handFault; dsimp only; split <;> rfl
@[simp] theorem handFault_flash (src : FaultSource) (kind : FaultKind) (detail : Detail) (s : State) :
    (handFault src kind detail s).flash = s.flash := by
  unfold handFault; dsimp only; split <;> rfl

@[simp] theorem elapse_pending (ms : Nat) (s : State) :
    (elapse ms s).pending = s.pending := by
  unfold elapse; split <;> rfl
@[simp] theorem elapse_stage (ms : Nat) (s : State) :
    (elapse ms s).stage = s.stage := by
  unfold elapse; split <;> rfl
@[simp] theorem elapse_cause (ms : Nat) (s : State) :
    (elapse ms s).cause = s.cause := by
  unfold elapse; split <;> rfl
@[simp] theorem elapse_restartPending (ms : Nat) (s : State) :
    (elapse ms s).restartPending = s.restartPending := by
  unfold elapse; split <;> rfl
@[simp] theorem elapse_strap (ms : Nat) (s : State) :
    (elapse ms s).strap = s.strap := by
  unfold elapse; split <;> rfl
@[simp] theorem elapse_pins (ms : Nat) (s : State) :
    (elapse ms s).pins = s.pins := by
  unfold elapse; split <;> rfl
@[simp] theorem elapse_hold (ms : Nat) (s : State) :
    (elapse ms s).hold = s.hold := by
  unfold elapse; split <;> rfl
@[simp] theorem elapse_readings (ms : Nat) (s : State) :
    (elapse ms s).readings = s.readings := by
  unfold elapse; split <;> rfl
@[simp] theorem elapse_active (ms : Nat) (s : State) :
    (elapse ms s).active = s.active := by
  unfold elapse; split <;> rfl
@[simp] theorem elapse_edit (ms : Nat) (s : State) :
    (elapse ms s).edit = s.edit := by
  unfold elapse; split <;> rfl
@[simp] theorem elapse_completed (ms : Nat) (s : State) :
    (elapse ms s).completed = s.completed := by
  unfold elapse; split <;> rfl
@[simp] theorem elapse_nextBoundary (ms : Nat) (s : State) :
    (elapse ms s).nextBoundary = s.nextBoundary := by
  unfold elapse; split <;> rfl
@[simp] theorem elapse_sweep (ms : Nat) (s : State) :
    (elapse ms s).sweep = s.sweep := by
  unfold elapse; split <;> rfl
@[simp] theorem elapse_published (ms : Nat) (s : State) :
    (elapse ms s).published = s.published := by
  unfold elapse; split <;> rfl
@[simp] theorem elapse_working (ms : Nat) (s : State) :
    (elapse ms s).working = s.working := by
  unfold elapse; split <;> rfl
@[simp] theorem elapse_batch (ms : Nat) (s : State) :
    (elapse ms s).batch = s.batch := by
  unfold elapse; split <;> rfl
@[simp] theorem elapse_scanTable (ms : Nat) (s : State) :
    (elapse ms s).scanTable = s.scanTable := by
  unfold elapse; split <;> rfl
@[simp] theorem elapse_alarms (ms : Nat) (s : State) :
    (elapse ms s).alarms = s.alarms := by
  unfold elapse; split <;> rfl
@[simp] theorem elapse_hotList (ms : Nat) (s : State) :
    (elapse ms s).hotList = s.hotList := by
  unfold elapse; split <;> rfl
@[simp] theorem elapse_unlisted (ms : Nat) (s : State) :
    (elapse ms s).unlisted = s.unlisted := by
  unfold elapse; split <;> rfl
@[simp] theorem elapse_passAlert (ms : Nat) (s : State) :
    (elapse ms s).passAlert = s.passAlert := by
  unfold elapse; split <;> rfl
@[simp] theorem elapse_ports (ms : Nat) (s : State) :
    (elapse ms s).ports = s.ports := by
  unfold elapse; split <;> rfl
@[simp] theorem elapse_dataOut (ms : Nat) (s : State) :
    (elapse ms s).dataOut = s.dataOut := by
  unfold elapse; split <;> rfl
@[simp] theorem elapse_faults (ms : Nat) (s : State) :
    (elapse ms s).faults = s.faults := by
  unfold elapse; split <;> rfl
@[simp] theorem elapse_store (ms : Nat) (s : State) :
    (elapse ms s).store = s.store := by
  unfold elapse; split <;> rfl
@[simp] theorem elapse_flash (ms : Nat) (s : State) :
    (elapse ms s).flash = s.flash := by
  unfold elapse; split <;> rfl

@[simp] theorem setPort_ports (s : State) (p : Port) (u : PortUnit) : (s.setPort p u).ports = s.ports.set p u := rfl
@[simp] theorem setGroup_groups (s : State) (g : GroupIx) (x : CaptureGroup) :
    (s.setGroup g x).groups = put s.groups g x := rfl
@[simp] theorem setEdit_edit (s : State) (e : Option EditClaim) : (s.setEdit e).edit = e := rfl
@[simp] theorem retain_hold (f : HoldContents → HoldContents) (s : State) :
    (retain f s).hold = sealHold (f s.hold.contents) := rfl
@[simp] theorem driveOut_dataOut (p : Port) (bytes : List Byte) (s : State) :
    (driveOut p bytes s).dataOut = s.dataOut.set p bytes := rfl

end Sys2Proof.Machine
end

