-- ==== Sys2Proof/Laws/Ops.lean ====
section
/-! SUPPORT. What each shared operation can do, said once. -/
namespace Sys2Proof.Machine

/-! ### Requests -/

/-- The owner of each kind (R163). -/
def ownerOf : RequestKind → Owner
  | .getStatus => ownGetStatus
  | .getNotices => ownGetNotices
  | .getCell => ownGetCell
  | .getPass => ownGetPass
  | .getLine => ownGetLine
  | .getHotlist => ownGetHotlist
  | .getPassinfo => ownGetPassinfo
  | .acknowledge => ownAcknowledge
  | .setPassState => ownSetPassState
  | .claim => ownClaim
  | .release => ownRelease
  | .stageLine => stage writeLine
  | .stageCell => stage writeCell
  | .stagePass => stage writePass
  | .stageGlobal => stage writeGlobal
  | .commit => ownCommit
  | .getConfig => ownGetConfig
  | .scanOpen => ownScanOpen
  | .scanPut => ownScanPut
  | .scanClose => ownScanClose
  | .scanDrop => ownScanDrop
  | .getFaults => ownGetFaults
  | .clearFaults => ownClearFaults
  | .storeImage => ownStoreImage
  | .restart => ownRestart

theorem exec_request (k : RequestKind) (p : Port) (s : State) :
    exec (requestCommand k p) s = .next (serve k (ownerOf k) p s) := by
  cases k <;> rfl

theorem serve_owned (k : RequestKind) (owner : Owner) (p : Port) (tag : Byte) (payload : List Byte) (s : State)
    (h : Asks k p tag payload s) (ha : admission k p payload.length = none) :
    serve k owner p s = answered k p tag payload (owner p payload s).2 (owner p payload s).1 := by
  unfold serve
  rw [h.2]
  simp [State.running, h.1, ha, answered, answerSlot, State.setPort]

theorem serve_refused (k : RequestKind) (owner : Owner) (p : Port) (tag : Byte) (payload : List Byte) (s : State)
    (code : ResultCode) (h : Asks k p tag payload s) (ha : admission k p payload.length = some code) :
    serve k owner p s = answered k p tag payload (codeOnly code) s := by
  unfold serve
  rw [h.2]
  simp [State.running, h.1, ha, answered, answerSlot, State.setPort]

theorem serve_idle (k : RequestKind) (owner : Owner) (p : Port) (s : State)
    (h : ∀ tag payload, ¬ Asks k p tag payload s) : serve k owner p s = s := by
  unfold serve
  split
  · next req e =>
    have : ¬ (s.running = true ∧ req.kind = kindByte k) := by
      intro ⟨hr, hk⟩
      refine h req.tag req.payload ⟨by simpa [State.running] using hr, ?_⟩
      rw [e, ← hk]
    simp [this]
  · rfl
  · rfl

/-! ### Faults and notices -/

theorem handFault_faults (src : FaultSource) (kind : FaultKind) (detail : Detail) (s : State) :
    (handFault src kind detail s).faults =
      put s.faults (sourceIx src)
        (takeFault kind s.timebase.partTime detail (s.faults.get (sourceIx src))) := by
  unfold handFault
  dsimp only
  split <;> rfl

theorem notifyAll_get (n : Notice) (s : State) (p : Port) :
    (notifyAll n s).ports.get p = { s.ports.get p with notices := raiseNotice n (s.ports.get p).notices } := by
  cases p <;> rfl

theorem handFault_slot (src : FaultSource) (kind : FaultKind) (detail : Detail) (s : State) (p : Port) :
    ((handFault src kind detail s).ports.get p).slot = (s.ports.get p).slot := by
  unfold handFault
  dsimp only
  split
  · rw [notifyAll_get]
  · rfl

theorem notify_slot (q : Port) (n : Notice) (s : State) (p : Port) :
    ((notify q n s).ports.get p).slot = (s.ports.get p).slot := by
  cases p <;> cases q <;> rfl

/-! ### Time -/

theorem elapse_stopped (ms : Nat) (s : State) (h : s.stage ≠ .running) : elapse ms s = s := by
  simp [elapse, State.running, h]

theorem elapse_partTime (ms : Nat) (s : State) (h : s.stage = .running) :
    (elapse ms s).timebase.partTime = s.timebase.partTime + BitVec.ofNat 32 ms := by
  simp [elapse, State.running, h, elapseTimebase]

/-! ### Alarm records -/

theorem changeAlarm_same (i : CellIx) (s : State) : changeAlarm i (s.alarms.get i) s = s := by
  simp [changeAlarm]

theorem changeAlarm_alarms (i : CellIx) (a : AlarmRecord) (s : State) :
    (changeAlarm i a s).alarms = put s.alarms i a := by
  unfold changeAlarm
  split
  · next h =>
    apply table_ext
    intro j
    rw [put_get]
    split
    · next e => subst e; exact h
    · rfl
  · rfl

theorem changeAlarm_slot (i : CellIx) (a : AlarmRecord) (s : State) (p : Port) :
    ((changeAlarm i a s).ports.get p).slot = (s.ports.get p).slot := by
  unfold changeAlarm
  split
  · rfl
  · rw [notify_slot, notify_slot]; rfl

end Sys2Proof.Machine
end

