-- ==== Sys2Proof/WellFormed.lean ====
section
/-! DEFINITION. Well-formed commands: operands that the event they stand for can have. -/
namespace Sys2Proof

/-- An elapsed time fits the 32-bit part time (R59). -/
def elapsedOk (ms : Nat) : Bool := decide (ms < 4294967296)

/-- Counting-clock periods between two edges: at least two, so that a frequency fits its 32-bit field, and at most 10 ms
at 64 MHz (R27, R162, log 6). -/
def periodsOk (n : Nat) : Bool := decide (2 ≤ n ∧ n ≤ 640000)

/-- A signed value fits 16-bit two's complement (R8, R162). -/
def signed16 (x : Int) : Bool := decide (-32768 ≤ x ∧ x ≤ 32767)

/-- A cell entry fits the fields of the cell entry form, with at most three source items (R6, R162). -/
def CellEntry.storable (e : CellEntry) : Bool :=
  decide (e.sources.length ≤ 3) &&
  e.sources.all (fun i => decide (i.line < 256) && signed16 i.trim) &&
  (match e.fallback with
   | none => true
   | some f => decide (f.cell < 65536) && signed16 f.offset)

/-- A line record fits its form (R162). -/
def LineRecord.storable (r : LineRecord) : Bool := signed16 r.zeroTrim && decide (r.span < 65536)

/-- A pass record fits its form (R162). -/
def PassRecord.storable (r : PassRecord) : Bool :=
  decide (r.tubeCount < 256 ∧ r.levelCount < 256 ∧ r.high < 65536 ∧ r.highHigh < 65536 ∧ r.spallHigh < 65536 ∧
    r.spallHighHigh < 65536 ∧ r.deadband < 65536 ∧ r.rateLimit < 65536)

/-- A global record fits its form (R162). -/
def GlobalRecord.storable (r : GlobalRecord) : Bool :=
  decide (r.sweepPeriod < 65536 ∧ r.staleLimit < 256 ∧ r.staleHold < 256 ∧ r.disagreement < 65536 ∧
    r.scanMargin < 65536 ∧ r.scanValidAge < 4294967296 ∧ r.rateWindow < 256 ∧ r.maxSpall < 256 ∧
    r.spallOverdue < 65536 ∧ r.referenceAge < 256) &&
  r.groups.toList.all (fun g => decide (g.window < 65536 ∧ g.interleave < 256))

/-- What a disturbance leaves fits the part it disturbs. -/
def HoldUpset.storable : HoldUpset → Bool
  | .supplyLost => true
  | .check _ => true
  | .line _ r => r.storable
  | .cell _ e _ => e.storable
  | .pass _ r => r.storable
  | .globals r => r.storable
  | .generation _ => true
  | .passState _ _ _ => true
  | .alarm _ e => match e with
    | none => true
    | some a => match a.peak with
      | none => true
      | some p => signed16 p
  | .restartRecord _ _ => true

/-- A request transaction carries its first byte whole, and that byte is not the poll kind 0x00 (R151). -/
def requestBytesOk : List Byte → Bool
  | [] => false
  | first :: _ => decide (first ≠ 0#8)

/-- The bytes a flash holds otherwise than written lie in the written part of the region, past the marker (R175, R177). -/
def misreadOk (misread : List (Nat × Byte)) : Bool := misread.all (fun c => decide (4 ≤ c.1 ∧ c.1 < 16384))

/-- The check on a command, constructor by constructor. -/
def Instr.wellFormed : Instr → Bool
  | .requestTransaction _ bytes _ _ => requestBytesOk bytes
  | .poll _ clocked _ => decide (1 ≤ clocked)
  | .unknownKind _ | .getStatus _ | .getNotices _ | .getCell _ | .getPass _ | .getLine _ | .getHotlist _
  | .getPassinfo _ | .acknowledge _ | .setPassState _ | .claim _ | .release _ | .stageLine _ | .stageCell _
  | .stagePass _ | .stageGlobal _ | .commit _ | .getConfig _ | .scanOpen _ | .scanPut _ | .scanClose _
  | .scanDrop _ | .getFaults _ | .clearFaults _ | .storeImage _ | .restart _ => true
  | .settleEnd _ ms | .armTimeout _ ms | .countTimeout _ ms | .widthTimeout _ ms | .readingRetire _ ms => elapsedOk ms
  | .armEdge _ | .widthEnd _ => true
  | .countEnd _ n | .cycleClose _ n => periodsOk n
  | .fallingEdge _ n => decide (1 ≤ n ∧ n ≤ 640000)
  | .crystalGap | .lockReport | .lossOfLockReport | .crystalEdge => true
  | .crystalRestore ms | .lockTimeout ms | .retryExpiry ms | .sweepBoundary ms | .spallOverdue _ ms
  | .batchExpiry ms | .scanEntryRetire _ ms | .claimExpiry ms | .restartPendingExpiry ms => elapsedOk ms
  | .cellComputation => true
  | .powerOn | .resetPin | .brownout | .resetHeldEnd _ | .imageLoad | .eraseEnd | .storeCompletion => true
  | .writeEnd misread => misreadOk misread
  | .entryStorageUpset _ e _ => e.storable
  | .holdDomainDisturbance u => u.storable

/-- The port whose slot a request command executes (R155). -/
def Instr.requestPort? : Instr → Option Port
  | .unknownKind p | .getStatus p | .getNotices p | .getCell p | .getPass p | .getLine p | .getHotlist p
  | .getPassinfo p | .acknowledge p | .setPassState p | .claim p | .release p | .stageLine p | .stageCell p
  | .stagePass p | .stageGlobal p | .commit p | .getConfig p | .scanOpen p | .scanPut p | .scanClose p
  | .scanDrop p | .getFaults p | .clearFaults p | .storeImage p | .restart p => some p
  | .requestTransaction _ _ _ _ | .poll _ _ _ => none
  | .settleEnd _ _ | .armEdge _ | .armTimeout _ _ | .countEnd _ _ | .countTimeout _ _ | .widthEnd _
  | .widthTimeout _ _ | .readingRetire _ _ => none
  | .crystalGap | .crystalRestore _ | .lockReport | .lossOfLockReport | .lockTimeout _ | .retryExpiry _ => none
  | .sweepBoundary _ | .cellComputation | .spallOverdue _ _ | .batchExpiry _ | .scanEntryRetire _ _
  | .claimExpiry _ => none
  | .powerOn | .resetPin | .brownout | .resetHeldEnd _ | .restartPendingExpiry _ | .imageLoad | .eraseEnd
  | .writeEnd _ | .storeCompletion => none
  | .crystalEdge | .cycleClose _ _ | .fallingEdge _ _ | .entryStorageUpset _ _ _ | .holdDomainDisturbance _ => none

end Sys2Proof
end

