-- ==== Sys2Proof/Laws/PerInstr.lean ====
section
/-! SUPPORT. Statements for all commands, one lemma per constructor. -/
namespace Sys2Proof.Laws.RequestCommands

/-- A command that executes the request in a port's slot is well formed whatever its port: its operands come from the
slot (R155). -/
def Statement (i : Instr) : Prop := i.requestPort?.isSome = true → i.wellFormed = true

theorem requestTransaction (port : Port) (bytes : List Byte) (trailingBits : Bool) (begunEarly : Bool) : Statement (.requestTransaction port bytes trailingBits begunEarly) := fun h => by cases h
theorem poll (port : Port) (clocked : Nat) (begunEarly : Bool) : Statement (.poll port clocked begunEarly) := fun h => by cases h
theorem unknownKind (port : Port) : Statement (.unknownKind port) := fun _ => rfl
theorem getStatus (port : Port) : Statement (.getStatus port) := fun _ => rfl
theorem getNotices (port : Port) : Statement (.getNotices port) := fun _ => rfl
theorem getCell (port : Port) : Statement (.getCell port) := fun _ => rfl
theorem getPass (port : Port) : Statement (.getPass port) := fun _ => rfl
theorem getLine (port : Port) : Statement (.getLine port) := fun _ => rfl
theorem getHotlist (port : Port) : Statement (.getHotlist port) := fun _ => rfl
theorem getPassinfo (port : Port) : Statement (.getPassinfo port) := fun _ => rfl
theorem acknowledge (port : Port) : Statement (.acknowledge port) := fun _ => rfl
theorem setPassState (port : Port) : Statement (.setPassState port) := fun _ => rfl
theorem claim (port : Port) : Statement (.claim port) := fun _ => rfl
theorem release (port : Port) : Statement (.release port) := fun _ => rfl
theorem stageLine (port : Port) : Statement (.stageLine port) := fun _ => rfl
theorem stageCell (port : Port) : Statement (.stageCell port) := fun _ => rfl
theorem stagePass (port : Port) : Statement (.stagePass port) := fun _ => rfl
theorem stageGlobal (port : Port) : Statement (.stageGlobal port) := fun _ => rfl
theorem commit (port : Port) : Statement (.commit port) := fun _ => rfl
theorem getConfig (port : Port) : Statement (.getConfig port) := fun _ => rfl
theorem scanOpen (port : Port) : Statement (.scanOpen port) := fun _ => rfl
theorem scanPut (port : Port) : Statement (.scanPut port) := fun _ => rfl
theorem scanClose (port : Port) : Statement (.scanClose port) := fun _ => rfl
theorem scanDrop (port : Port) : Statement (.scanDrop port) := fun _ => rfl
theorem getFaults (port : Port) : Statement (.getFaults port) := fun _ => rfl
theorem clearFaults (port : Port) : Statement (.clearFaults port) := fun _ => rfl
theorem storeImage (port : Port) : Statement (.storeImage port) := fun _ => rfl
theorem restart (port : Port) : Statement (.restart port) := fun _ => rfl
theorem settleEnd (group : GroupIx) (elapsed : Nat) : Statement (.settleEnd group elapsed) := fun h => by cases h
theorem armEdge (group : GroupIx) : Statement (.armEdge group) := fun h => by cases h
theorem armTimeout (group : GroupIx) (elapsed : Nat) : Statement (.armTimeout group elapsed) := fun h => by cases h
theorem countEnd (group : GroupIx) (periods : Nat) : Statement (.countEnd group periods) := fun h => by cases h
theorem countTimeout (group : GroupIx) (elapsed : Nat) : Statement (.countTimeout group elapsed) := fun h => by cases h
theorem widthEnd (group : GroupIx) : Statement (.widthEnd group) := fun h => by cases h
theorem widthTimeout (group : GroupIx) (elapsed : Nat) : Statement (.widthTimeout group elapsed) := fun h => by cases h
theorem readingRetire (line : LineIx) (elapsed : Nat) : Statement (.readingRetire line elapsed) := fun h => by cases h
theorem crystalGap : Statement (.crystalGap) := fun h => by cases h
theorem crystalRestore (elapsed : Nat) : Statement (.crystalRestore elapsed) := fun h => by cases h
theorem lockReport : Statement (.lockReport) := fun h => by cases h
theorem lossOfLockReport : Statement (.lossOfLockReport) := fun h => by cases h
theorem lockTimeout (elapsed : Nat) : Statement (.lockTimeout elapsed) := fun h => by cases h
theorem retryExpiry (elapsed : Nat) : Statement (.retryExpiry elapsed) := fun h => by cases h
theorem sweepBoundary (elapsed : Nat) : Statement (.sweepBoundary elapsed) := fun h => by cases h
theorem cellComputation : Statement (.cellComputation) := fun h => by cases h
theorem spallOverdue (pass : PassIx) (elapsed : Nat) : Statement (.spallOverdue pass elapsed) := fun h => by cases h
theorem batchExpiry (elapsed : Nat) : Statement (.batchExpiry elapsed) := fun h => by cases h
theorem scanEntryRetire (cell : CellIx) (elapsed : Nat) : Statement (.scanEntryRetire cell elapsed) := fun h => by cases h
theorem claimExpiry (elapsed : Nat) : Statement (.claimExpiry elapsed) := fun h => by cases h
theorem powerOn : Statement (.powerOn) := fun h => by cases h
theorem resetPin : Statement (.resetPin) := fun h => by cases h
theorem brownout : Statement (.brownout) := fun h => by cases h
theorem resetHeldEnd (level : HeldLevel) : Statement (.resetHeldEnd level) := fun h => by cases h
theorem restartPendingExpiry (elapsed : Nat) : Statement (.restartPendingExpiry elapsed) := fun h => by cases h
theorem imageLoad : Statement (.imageLoad) := fun h => by cases h
theorem eraseEnd : Statement (.eraseEnd) := fun h => by cases h
theorem writeEnd (misread : List (Nat × Byte)) : Statement (.writeEnd misread) := fun h => by cases h
theorem storeCompletion : Statement (.storeCompletion) := fun h => by cases h
theorem crystalEdge : Statement (.crystalEdge) := fun h => by cases h
theorem cycleClose (group : GroupIx) (periods : Nat) : Statement (.cycleClose group periods) := fun h => by cases h
theorem fallingEdge (group : GroupIx) (periods : Nat) : Statement (.fallingEdge group periods) := fun h => by cases h
theorem entryStorageUpset (cell : CellIx) (entry : CellEntry) (code : Byte) : Statement (.entryStorageUpset cell entry code) := fun h => by cases h
theorem holdDomainDisturbance (upset : HoldUpset) : Statement (.holdDomainDisturbance upset) := fun h => by cases h

end Sys2Proof.Laws.RequestCommands
end

