-- ==== Sys2Proof/Tests/Slice0.lean ====
section
/-! SUPPORT. Tests: ill-formed commands, the spec's worked examples, and for every statement with hypotheses a state and
operands that meet them. -/
namespace Sys2Proof.Tests
open Sys2Proof Sys2Proof.Machine
set_option Elab.async false

/-! ### Ill-formed commands -/

theorem test_empty_transaction_refused : Instr.wellFormed (.requestTransaction .control [] false false) = false := by
  decide
theorem test_poll_byte_refused : Instr.wellFormed (.requestTransaction .control [0#8] false false) = false := by decide
theorem test_poll_of_nothing_refused : Instr.wellFormed (.poll .trip 0 false) = false := by decide
theorem test_long_elapse_refused : Instr.wellFormed (.lockTimeout 4294967296) = false := by decide
theorem test_short_cycle_refused : Instr.wellFormed (.cycleClose 0 1) = false := by decide
theorem test_long_cycle_refused : Instr.wellFormed (.countEnd 0 640001) = false := by decide
theorem test_no_high_time_refused : Instr.wellFormed (.fallingEdge 0 0) = false := by decide
theorem test_long_high_time_refused : Instr.wellFormed (.fallingEdge 0 640001) = false := by decide
theorem test_misread_marker_refused : Instr.wellFormed (.writeEnd [(3, 0#8)]) = false := by decide
theorem test_misread_beyond_refused : Instr.wellFormed (.writeEnd [(16384, 0#8)]) = false := by decide
theorem test_four_sources_refused :
    Instr.wellFormed (.entryStorageUpset 0 { sources := List.replicate 4 ⟨1, 0⟩, fallback := none } 0#8) = false := by
  decide
theorem test_wide_line_refused :
    Instr.wellFormed (.entryStorageUpset 0 { sources := [⟨256, 0⟩], fallback := none } 0#8) = false := by decide
theorem test_wide_trim_refused :
    Instr.wellFormed (.entryStorageUpset 0 { sources := [⟨1, 32768⟩], fallback := none } 0#8) = false := by decide
theorem test_wide_fallback_refused :
    Instr.wellFormed (.entryStorageUpset 0 { sources := [], fallback := some ⟨65536, 0⟩ } 0#8) = false := by decide
theorem test_wide_line_record_refused :
    Instr.wellFormed (.holdDomainDisturbance (.line 0 { defaultLine with span := 65536 })) = false := by decide
theorem test_wide_pass_record_refused :
    Instr.wellFormed (.holdDomainDisturbance (.pass 0 { defaultPass with tubeCount := 256 })) = false := by decide
theorem test_wide_global_record_refused :
    Instr.wellFormed (.holdDomainDisturbance (.globals { defaultGlobals with staleLimit := 256 })) = false := by decide
theorem test_wide_settings_refused :
    Instr.wellFormed (.holdDomainDisturbance (.globals
      { defaultGlobals with groups := Vector.replicate 8 { window := 64, interleave := 256 } })) = false := by decide
theorem test_wide_peak_refused :
    Instr.wellFormed (.holdDomainDisturbance (.alarm 0 (some { severity := .high, peak := some 32768 }))) = false := by
  decide
theorem test_boundary_operands_accepted :
    Instr.wellFormed (.cycleClose 0 2) = true ∧ Instr.wellFormed (.cycleClose 0 640000) = true ∧
      Instr.wellFormed (.fallingEdge 0 1) = true ∧ Instr.wellFormed (.lockTimeout 4294967295) = true ∧
      Instr.wellFormed (.writeEnd [(4, 0#8), (16383, 0#8)]) = true ∧ Instr.wellFormed (.poll .trip 1 false) = true := by
  decide

/-! ### The spec's worked examples -/

/-- The entry of cell 164 of section 1.4.3. -/
def entry164 : CellEntry := { sources := [⟨33, 15⟩, ⟨34, -20⟩], fallback := some ⟨160, 30⟩ }

theorem test_check_code_of_164 : checkCode 164 entry164 = 0xB8#8 := by decide
theorem test_check_code_of_empty : checkCode 0 emptyEntry = 0xA5#8 ∧ checkCode 258 emptyEntry = 0xA5#8 := by decide
theorem test_cell_form_of_164 :
    cellForm 164 entry164 = [0x00#8, 0xA4#8, 0x02#8, 0x21#8, 0x00#8, 0x0F#8, 0x22#8, 0xFF#8, 0xEC#8, 0x01#8, 0x00#8,
      0xA0#8, 0x00#8, 0x1E#8] := by decide
/-- The nine ASCII digits 1 to 9. -/
def digits : List Byte := [0x31#8, 0x32#8, 0x33#8, 0x34#8, 0x35#8, 0x36#8, 0x37#8, 0x38#8, 0x39#8]
theorem test_crc16_of_digits : crc16 digits = 0x29B1#16 := by decide +kernel
theorem test_crc32_of_digits : crc32 digits = 0xCBF43926#32 := by decide +kernel
theorem test_scan_list_interleave_4 :
    (0 : SlotIx) :: placeReferences 4 4 [1, 2, 7, 8, 9, 12] = [0, 1, 2, 7, 8, 0, 9, 12] := by decide
theorem test_scan_list_interleave_2 :
    (0 : SlotIx) :: placeReferences 2 2 [1, 2, 7, 8, 9, 12] = [0, 1, 2, 0, 7, 8, 0, 9, 12] := by decide
/-- The timebase of the reading of section 2.5. -/
def lockedAt12 : Timebase := { Timebase.restart with state := .locked, epoch := 12#16, partTime := 10000#32 }
theorem test_reading_of_line_33 :
    skinReading { fitted := true, zeroTrim := 1250, span := 5200 } 10 64
      (some { frequency := 500740, epoch := 12#16, stamp := 6800#32 }) lockedAt12 (.counted .mhz64 743000 5700) =
      { status := .ok, temperature := some 6716, frequency := some 550464, quality := some .good, corrected := true,
        epoch := 12#16, stamp := 10000#32 } := by decide
/-- The hand-off of the hysteresis example of section 6.1. -/
def hysteresis (rate : Int) : HandOff :=
  { cell := 80, sweep := 1#32, estimate := none, quality := .good, rate := some rate, passState := .online,
    high := 6800, highHigh := 7300, deadband := 50, rateLimit := 200 }
theorem test_hysteresis_table :
    conditionSeverity (hysteresis 40) 7330 .highHigh = .highHigh ∧
      conditionSeverity (hysteresis 40) 7280 .highHigh = .highHigh ∧
      conditionSeverity (hysteresis 40) 7240 .highHigh = .high ∧
      conditionSeverity (hysteresis 160) 6760 .high = .high ∧
      conditionSeverity (hysteresis 160) 6740 .high = .none ∧
      conditionSeverity (hysteresis 160) 6740 .rate = .rate := by decide
theorem test_rounding_half_away :
    roundDiv 5 2 = 3 ∧ roundDiv (-5) 2 = -3 ∧ roundDiv 4 3 = 1 ∧ roundDiv (-4) 3 = -1 := by decide
theorem test_age_wraps : age 5#32 4294967291#32 = 10 := by decide
theorem test_spec_word_none : decodeTableWord 8 0 = none := by decide

/-! ### States for the witnesses -/

/-- The reset state with a request in a port's slot. -/
def asks (k : RequestKind) (p : Port) (payload : List Byte) (s : State) : State :=
  s.setPort p { s.ports.get p with slot := .processing { kind := kindByte k, tag := 7#8, payload := payload } }

/-- One fitted line, line 1, that serves cell 0, the only cell. -/
def oneCell : Configuration :=
  { emptyConfiguration with
    lines := put emptyConfiguration.lines 1 { defaultLine with fitted := true }
    cells := put emptyConfiguration.cells 0 { sources := [⟨1, 0⟩], fallback := none }
    passes := put emptyConfiguration.passes 0 { defaultPass with tubeCount := 1 } }

/-- RUNNING on that configuration. -/
def live : State :=
  { State.reset with active := { config := oneCell, codes := checkCodes oneCell, generation := 1#16, source := .commit } }

/-- A claim held by a port, with a staged copy. -/
def claimed (p : Port) (pending : Bool) (staged : Configuration) (s : State) : State :=
  { s with edit := some { holder := p, staged := staged, commitPending := pending,
                          timer := if pending then none else some 0#32 } }

/-- Cell 0 with an alarm record. -/
def alarmed (state : AlarmState) (sev : Severity) (s : State) : State :=
  { s with alarms := put s.alarms 0 { state := state, severity := sev, condition := .none, peak := some 7000,
                                      raisedSweep := 1#32, restored := false } }

/-- A batch of the service port. -/
def openBatch (buffer : List Sample) : Batch :=
  { owner := .service, buffer := buffer, lastActivity := 0#32, rejectionLogged := false }

/-- Part time at a value. -/
def atTime (t : Word) (s : State) : State := { s with timebase := { s.timebase with partTime := t } }

/-- Group 0 with a measurement in a stage. -/
def measuring (slot : SlotIx) (window : Nat) (stage : MeasureStage) (aborts timer : Nat) (s : State) : State :=
  { s with groups := (put s.groups 0
      { parked := false, scanList := [1, 2], cursor := 0
        measurement := (some { slot := slot, window := window, stage := stage, aborts := aborts, timer := timer })
        applied := false, refStatus := .none, lastRef := none }) }

/-- The timebase unit in a state. -/
def inState (t : TimebaseState) (s : State) : State := { s with timebase := { s.timebase with state := t } }

/-! ### Witnesses: the queue, transactions, the slot -/

theorem witness_StepRunsFrontCommand : ({ State.reset with pending := [.powerOn] } : State).pending = .powerOn :: [] := rfl
theorem witness_EveryStepAnswers :
    State.reset.pending = [] ∧ State.reset.stage = .running ∧
      ({ State.reset with stage := .imageLoad } : State).pending = [] ∧
      ({ State.reset with stage := .imageLoad } : State).stage ≠ .running := by decide

/-- GET_STATUS as a request, and its frame. -/
def statusRequest : Request := { kind := 0x01#8, tag := 7#8, payload := [] }
theorem test_frame_read : readFrame (requestFrame statusRequest) false = some statusRequest := by decide +kernel
theorem test_longest_frame_read :
    readFrame (requestFrame { statusRequest with payload := List.replicate 64 1#8 }) false =
      some { statusRequest with payload := List.replicate 64 1#8 } := by decide +kernel
theorem test_too_long_frame_bad :
    readFrame (requestFrame { statusRequest with payload := List.replicate 65 1#8 }) false = none := by decide +kernel
theorem test_trailing_bits_bad : readFrame (requestFrame statusRequest) true = none := by decide +kernel
theorem witness_RequestFramesJudged_taken :
    State.reset.stage = .running ∧ (requestFrame statusRequest).head? ≠ some 0#8 ∧
      readFrame (requestFrame statusRequest) false = some statusRequest ∧
      (State.reset.ports.get .control).slot = .empty := by decide +kernel
theorem witness_RequestFramesJudged_overrun :
    (asks .getStatus .trip [] State.reset).stage = .running ∧
      ((asks .getStatus .trip [] State.reset).ports.get .trip).slot = .processing statusRequest := by decide
theorem witness_RequestFramesJudged_bad :
    ([1#8] : List Byte) ≠ [] ∧ ([1#8] : List Byte).head? ≠ some 0#8 ∧ readFrame [1#8] false = none := by decide
theorem witness_RestartSilencesPorts :
    ({ State.reset with stage := .resetHeld } : State).stage ≠ .running ∧ ([1#8] : List Byte) ≠ [] ∧ 1 ≤ 1 := by decide
theorem witness_PollShiftsResponseFrame_empty :
    State.reset.stage = .running ∧ (State.reset.ports.get .control).slot = .empty ∧
      State.reset.restartPending = none := by decide
theorem witness_PollShiftsResponseFrame_processing :
    ((asks .getStatus .trip [] State.reset).ports.get .trip).slot = .processing statusRequest ∧
      (asks .getStatus .trip [] State.reset).restartPending = none := by decide
/-- A RESTART answered OK on the service port, its restart pending since part time 0. -/
def restartPends : State :=
  { State.reset with
    restartPending := some 0#32
    ports := { State.reset.ports with service := { PortUnit.restarted with
      slot := .answered { kind := 0x61#8, tag := 7#8, payload := [] } { code := .ok, payload := [] } } } }
theorem witness_PollShiftsResponseFrame_answered_cut_short :
    restartPends.stage = .running ∧
      (restartPends.ports.get .service).slot =
        .answered { kind := 0x61#8, tag := 7#8, payload := [] } { code := .ok, payload := [] } ∧
      6 < (0#8 :: 7#8 :: resultByte .ok :: (be16 0 ++ [])).length + 2 := by decide
theorem test_poll_after_reset :
    (takePoll .control 7 State.reset).dataOut.control =
      [0x10#8, 0#8, 0#8, 0#8, 0#8] ++ be16 (crc16 [0x10#8, 0#8, 0#8, 0#8, 0#8]).toNat := by decide +kernel

/-! ### Witnesses: the catalogue and the reading requests -/

theorem witness_CatalogueTestsRefuse_denied :
    Asks .setPassState .trip 7#8 [0#8, 1#8] (asks .setPassState .trip [0#8, 1#8] State.reset) ∧
      admitted .setPassState .trip = false := by decide
theorem witness_CatalogueTestsRefuse_length :
    Asks .getCell .trip 7#8 [0#8] (asks .getCell .trip [0#8] State.reset) ∧
      admitted .getCell .trip = true ∧ fixedLength .getCell = some 2 ∧ ([0#8] : List Byte).length ≠ 2 := by decide
theorem witness_CatalogueTestsRefuse_unknown :
    (({ State.reset with ports := { State.reset.ports with trip :=
      { PortUnit.restarted with slot := .processing { statusRequest with kind := 0x03#8 } } } } : State).ports.get
        .trip).slot = .processing { statusRequest with kind := 0x03#8 } ∧
      ∀ k : RequestKind, kindByte k ≠ 0x03#8 := by
  refine ⟨rfl, fun k => ?_⟩
  cases k <;> decide
theorem witness_StatusAndHotListReported :
    Asks .getStatus .trip 7#8 [] (asks .getStatus .trip [] State.reset) ∧
      Asks .getHotlist .service 7#8 [] (asks .getHotlist .service [] State.reset) := by decide
theorem witness_CellsAndPassesReported_cell :
    Asks .getCell .control 7#8 [0#8, 0#8] (asks .getCell .control [0#8, 0#8] live) ∧
      cellExists (asks .getCell .control [0#8, 0#8] live).active.config 0 = true ∧
      cellExists (asks .getCell .control [0#8, 1#8] live).active.config 1 = false := by decide +kernel
theorem witness_CellsAndPassesReported_no_such_cell :
    Asks .getCell .control 7#8 [2#8, 128#8] (asks .getCell .control [2#8, 128#8] live) ∧
      ∀ i : CellIx, i.1 = (2#8).toNat * 256 + (128#8).toNat →
        cellExists (asks .getCell .control [2#8, 128#8] live).active.config i = false := by
  refine ⟨by decide, fun i h => ?_⟩
  have : i.1 = 640 := h
  omega
theorem witness_CellsAndPassesReported_pass :
    Asks .getPass .control 7#8 [0#8] (asks .getPass .control [0#8] live) ∧
      1 ≤ ((asks .getPass .control [0#8] live).active.config.passes.get 0).tubeCount ∧
      ((asks .getPass .control [7#8] live).active.config.passes.get 7).tubeCount = 0 ∧
      Asks .getPass .control 7#8 [8#8] (asks .getPass .control [8#8] live) ∧ 8 ≤ (8#8).toNat := by decide +kernel
theorem witness_GetLineReports :
    Asks .getLine .control 7#8 [127#8] (asks .getLine .control [127#8] live) ∧ (127#8).toNat = 127 ∧
      Asks .getLine .service 7#8 [128#8] (asks .getLine .service [128#8] live) ∧ 128 ≤ (128#8).toNat := by decide
theorem witness_GetPassinfoReports :
    Asks .getPassinfo .trip 7#8 [0#8] (asks .getPassinfo .trip [0#8] live) ∧
      1 ≤ ((asks .getPassinfo .trip [0#8] live).active.config.passes.get 0).tubeCount ∧
      Asks .getPassinfo .trip 7#8 [7#8] (asks .getPassinfo .trip [7#8] live) ∧
      ((asks .getPassinfo .trip [7#8] live).active.config.passes.get 7).tubeCount = 0 ∧
      Asks .getPassinfo .trip 7#8 [8#8] (asks .getPassinfo .trip [8#8] live) := by decide +kernel
theorem witness_GetNoticesEmptiesSet : Asks .getNotices .trip 7#8 [] (asks .getNotices .trip [] State.reset) := by decide
theorem test_notice_bits :
    noticeWord { NoticeSet.empty with alarmChange := true, restarted := true } = 1025 ∧
      (State.reset.ports.get .trip).notices = { NoticeSet.empty with restarted := true } ∧
      ((notify .trip .storeDone State.reset).ports.get .trip).notices =
        { NoticeSet.empty with restarted := true, storeDone := true } ∧
      (notify .trip .storeDone State.reset).ports.get .control = State.reset.ports.get .control := by decide
theorem witness_FaultBankReadAndCleared :
    Asks .getFaults .trip 7#8 [] (asks .getFaults .trip [] State.reset) ∧
      Asks .clearFaults .service 7#8 [14#8] (asks .clearFaults .service [14#8] State.reset) ∧ (14#8).toNat = 14 ∧
      Asks .clearFaults .service 7#8 [0xFF#8] (asks .clearFaults .service [0xFF#8] State.reset) ∧
      Asks .clearFaults .service 7#8 [15#8] (asks .clearFaults .service [15#8] State.reset) ∧ 15 ≤ (15#8).toNat ∧
      15#8 ≠ 0xFF#8 := by decide
theorem witness_FaultBankTakesFault :
    (State.reset.faults.get (sourceIx .sweep)).count = 0 ∧ 1 ≤ (State.reset.faults.get (sourceIx .store)).count ∧
      (State.reset.faults.get (sourceIx .store)).count ≤ 255 ∧ FaultSource.sweep ≠ FaultSource.store := by decide +kernel
theorem test_fault_count_saturates :
    takeFault .range 0#32 .none { firstKind := some .noSignal, firstStamp := 0#32, firstDetail := .none, count := 255,
                                  other := false } =
      { firstKind := some .noSignal, firstStamp := 0#32, firstDetail := .none, count := 255, other := true } := by decide

/-! ### Witnesses: alarms and pass states -/

theorem witness_AcknowledgeJudged_refused :
    Asks .acknowledge .trip 7#8 [0#8, 0#8, 0#8] (asks .acknowledge .trip [0#8, 0#8, 0#8] live) ∧
      Asks .acknowledge .control 7#8 [0#8, 0#8, 3#8] (asks .acknowledge .control [0#8, 0#8, 3#8] live) ∧
      Asks .acknowledge .control 7#8 [0#8, 1#8, 2#8] (asks .acknowledge .control [0#8, 1#8, 2#8] live) ∧
      cellExists (asks .acknowledge .control [0#8, 1#8, 2#8] live).active.config 1 = false := by decide +kernel
theorem witness_AcknowledgeJudged_nothing :
    Asks .acknowledge .trip 7#8 [0#8, 0#8, 3#8] (asks .acknowledge .trip [0#8, 0#8, 3#8] live) ∧
      cellExists (asks .acknowledge .trip [0#8, 0#8, 3#8] live).active.config 0 = true ∧
      ((asks .acknowledge .trip [0#8, 0#8, 3#8] live).alarms.get 0).state = .idle := by decide +kernel
theorem witness_AcknowledgeJudged_taken :
    Asks .acknowledge .trip 7#8 [0#8, 0#8, 3#8] (asks .acknowledge .trip [0#8, 0#8, 3#8] (alarmed .raised .highHigh live)) ∧
      ((asks .acknowledge .trip [0#8, 0#8, 3#8] (alarmed .raised .highHigh live)).alarms.get 0).state = .raised ∧
      ((asks .acknowledge .trip [0#8, 0#8, 3#8] (alarmed .lingering .highHigh live)).alarms.get 0).state = .lingering ∧
      ((asks .acknowledge .trip [0#8, 0#8, 3#8] (alarmed .raised .high live)).alarms.get 0).severity = .high ∧
      severityCode .highHigh = (3#8).toNat ∧ severityCode .high ≠ (3#8).toNat := by decide +kernel
theorem test_control_cannot_clear_highhigh :
    (ownAcknowledge .control [0#8, 0#8, 3#8] (alarmed .lingering .highHigh live)).2 = codeOnly .denied := by
  decide +kernel
theorem witness_AlarmChangeEffects :
    AlarmRecord.idleRecord = State.reset.alarms.get 0 ∧
      { AlarmRecord.idleRecord with state := .raised, severity := .high } ≠ State.reset.alarms.get 0 := by decide +kernel
theorem test_hot_list_order :
    ranksBefore 9 { AlarmRecord.idleRecord with state := .held, severity := .highHigh, peak := some 6000 }
        6 { AlarmRecord.idleRecord with state := .raised, severity := .high, peak := some 7000 } = true ∧
      ranksBefore 6 { AlarmRecord.idleRecord with state := .lingering, severity := .high, peak := some 6900 }
        5 { AlarmRecord.idleRecord with state := .held, severity := .high, peak := some 7000 } = true ∧
      ranksBefore 6 { AlarmRecord.idleRecord with state := .held, severity := .high, peak := some 6900 }
        5 { AlarmRecord.idleRecord with state := .held, severity := .high, peak := some 6900 } = false := by decide
theorem witness_AlarmRecordMoves :
    severityRank .none ≤ severityRank (testSeverity (hysteresis 40) 7330) ∧
      severityRank (testSeverity (hysteresis 40) 7280) < severityRank .highHigh ∧
      (alarmed .idle .none live).alarms.get 0 ≠ (alarmed .held .high live).alarms.get 0 ∧
      severityRank .high < severityRank .highHigh ∧ severityRank .rate ≤ severityRank .high := by decide +kernel
theorem witness_AlarmRecordMoves_hand_off :
    (hysteresis 40).quality = .good ∧ (hysteresis 40).estimate = none ∧
      ({ hysteresis 40 with estimate := some 7330 } : HandOff).estimate = some 7330 ∧
      ({ hysteresis 40 with quality := .offline } : HandOff).quality = .offline ∧
      moveRecord { hysteresis 40 with estimate := some 7330 } AlarmRecord.idleRecord =
        { state := .raised, severity := .highHigh, condition := .highHigh, peak := some 7330, raisedSweep := 1#32,
          restored := false } := by decide
theorem test_higher_condition_raises_again :
    moveKnown 5#32 7400 .highHigh { AlarmRecord.idleRecord with state := .held, severity := .high, peak := some 7000 } =
      { state := .raised, severity := .highHigh, condition := .highHigh, peak := some 7400, raisedSweep := 5#32,
        restored := false } := by decide
theorem test_offline_releases_held_only :
    moveUnknown .offline { AlarmRecord.idleRecord with state := .held, severity := .high } = AlarmRecord.idleRecord ∧
      moveUnknown .spall { AlarmRecord.idleRecord with state := .held, severity := .high } =
        { AlarmRecord.idleRecord with state := .held, severity := .high } ∧
      moveUnknown .offline { AlarmRecord.idleRecord with state := .lingering, severity := .high } =
        { AlarmRecord.idleRecord with state := .lingering, severity := .high } := by decide
/-- Pass 0 in a state, with a target. -/
def inPass (st : PassState) (target : Option PassState) (timer : Option Nat) (s : State) : State :=
  { s with passes := put s.passes 0 { state := st, target := target, spallTimer := timer, overdueNotified := false } }
theorem witness_SetPassStateJudged_refused :
    Asks .setPassState .control 7#8 [8#8, 1#8] (asks .setPassState .control [8#8, 1#8] live) ∧ 8 ≤ (8#8).toNat ∧
      Asks .setPassState .control 7#8 [0#8, 3#8] (asks .setPassState .control [0#8, 3#8] live) ∧ 3 ≤ (3#8).toNat ∧
      ((asks .setPassState .control [7#8, 1#8] live).active.config.passes.get 7).tubeCount = 0 := by decide +kernel
theorem witness_SetPassStateJudged_taken :
    Asks .setPassState .control 7#8 [0#8, 1#8] (asks .setPassState .control [0#8, 1#8] live) ∧
      1 ≤ ((asks .setPassState .control [0#8, 1#8] live).active.config.passes.get 0).tubeCount ∧
      passStateCode .spall = (1#8).toNat ∧
      spallCount (asks .setPassState .control [0#8, 1#8] live).passes 0 < live.active.config.globals.maxSpall := by
  decide +kernel
theorem witness_SetPassStateJudged_transition :
    (ownSetPassState .control [0#8, 0#8] live).2.code = .badTransition ∧
      (ownSetPassState .control [0#8, 1#8] { live with passes := (put live.passes 3
        { PassService.online with state := .spall, spallTimer := some 0 }) }).2.code = .spallLimit := by decide +kernel
theorem witness_SpallOverdueOnce :
    (elapse 1 (inPass .spall none (some 14399999) live)).passes.get 0 =
        { state := .spall, target := none, spallTimer := some 14400000, overdueNotified := false } ∧
      (inPass .spall none (some 14399999) live).active.config.globals.spallOverdue * 60000 ≤ 14400000 ∧
      (elapse 0 (inPass .spall none (some 14399999) live)).passes.get 0 =
        { state := .spall, target := none, spallTimer := some 14399999, overdueNotified := false } ∧
      14399999 < (inPass .spall none (some 14399999) live).active.config.globals.spallOverdue * 60000 := by decide +kernel

/-! ### Witnesses: configuration editing -/

theorem empty_cell_step (i : CellIx) : cellStep emptyConfiguration i = none := by
  have h1 : emptyConfiguration.cells.get i = emptyEntry := get_replicate _ _ _
  have h2 : cellExists emptyConfiguration i = false := by
    have : emptyConfiguration.passes.get (passOf i) = defaultPass := get_replicate _ _ _
    simp [cellExists, this, defaultPass]
  have h3 : cellInRange emptyEntry = true := by decide
  simp [cellStep, h1, h2, h3]
  simp [emptyEntry]
theorem empty_line_step (l : LineIx) : lineStep emptyConfiguration l = none := by
  have h1 : emptyConfiguration.lines.get l = defaultLine := get_replicate _ _ _
  have h2 : namingCells emptyConfiguration l = 0 := by
    have h : ∀ i : CellIx, namesLine (emptyConfiguration.cells.get i) l = false := fun i => by
      rw [show emptyConfiguration.cells.get i = emptyEntry from get_replicate _ _ _]; rfl
    unfold namingCells
    rw [List.filter_eq_nil_iff.2 fun i _ => by rw [h i]; exact Bool.false_ne_true]
    rfl
  have h3 : lineInRange defaultLine = true := by decide
  simp [lineStep, h1, h2, h3]
theorem empty_passes_checks : checkConfiguration emptyConfiguration = none := by
  have hp : (List.finRange 8).findSome? (passStep emptyConfiguration) = none := by decide +kernel
  have hg : globalStep emptyConfiguration = none := by decide +kernel
  have hc : (List.finRange 640).findSome? (cellStep emptyConfiguration) = none :=
    List.findSome?_eq_none_iff.2 fun i _ => empty_cell_step i
  have hl : (List.finRange 128).findSome? (lineStep emptyConfiguration) = none :=
    List.findSome?_eq_none_iff.2 fun l _ => empty_line_step l
  unfold checkConfiguration
  rw [hg, hp, hc, hl]
  rfl

/-- A configuration whose sweep period lies below its range. -/
def badPeriod : Configuration := { emptyConfiguration with globals := { defaultGlobals with sweepPeriod := 249 } }
theorem bad_period_fails : checkConfiguration badPeriod = some ⟨.range, none⟩ := by
  have h : globalStep badPeriod = some ⟨.range, none⟩ := by decide +kernel
  simp only [checkConfiguration, h, firstReport]

theorem witness_ClaimAndReleaseJudged :
    Asks .claim .control 7#8 [] (asks .claim .control [] live) ∧ (asks .claim .control [] live).edit = none ∧
      (asks .claim .control [] (claimed .control true oneCell live)).edit.map (fun e => e.holder) = some .control ∧
      (asks .claim .control [] (claimed .service false oneCell live)).edit.map (fun e => e.holder) = some .service ∧
      Asks .release .trip 7#8 [] (asks .release .trip [] live) ∧
      Asks .release .control 7#8 [] (asks .release .control [] (claimed .control false oneCell live)) ∧
      (asks .release .control [] (claimed .control true oneCell live)).edit.map (fun e => e.commitPending) = some true ∧
      (asks .release .control [] (claimed .control false oneCell live)).edit.map (fun e => e.commitPending) =
        some false := by decide
theorem witness_HolderTestsRefuse :
    Asks .stageCell .control 7#8 [] (asks .stageCell .control [] live) ∧ (asks .stageCell .control [] live).edit = none ∧
      Asks .commit .service 7#8 [] (asks .commit .service [] (claimed .service true oneCell live)) ∧
      (asks .commit .service [] (claimed .service true oneCell live)).edit.map (fun e => (e.holder, e.commitPending)) =
        some (.service, true) ∧
      Asks .getConfig .control 7#8 [1#8, 0#8, 0#8, 0#8]
        (asks .getConfig .control [1#8, 0#8, 0#8, 0#8] (claimed .service true oneCell live)) := by decide
theorem witness_StageWritesStagedCopy_line :
    Asks .stageLine .control 7#8 (127#8 :: lineForm { fitted := true, zeroTrim := -20000, span := 6000 })
        (asks .stageLine .control (127#8 :: lineForm { fitted := true, zeroTrim := -20000, span := 6000 })
          (claimed .control false emptyConfiguration live)) ∧
      lineInRange { fitted := true, zeroTrim := -20000, span := 6000 } = true ∧
      (127#8 :: lineForm { fitted := true, zeroTrim := -20000, span := 6000 }).length = 6 := by decide
theorem witness_StageWritesStagedCopy_cell :
    Asks .stageCell .control 7#8 (cellForm 639 entry164)
        (asks .stageCell .control (cellForm 639 entry164) (claimed .control false emptyConfiguration live)) ∧
      cellInRange entry164 = true := by decide
theorem witness_StageWritesStagedCopy_pass :
    Asks .stagePass .control 7#8 (7#8 :: passForm { defaultPass with tubeCount := 20 })
        (asks .stagePass .control (7#8 :: passForm { defaultPass with tubeCount := 20 })
          (claimed .control false emptyConfiguration live)) ∧
      passInRange { defaultPass with tubeCount := 20 } = true ∧
      (7#8 :: passForm { defaultPass with tubeCount := 20 }).length = 15 := by decide
theorem witness_StageWritesStagedCopy_global :
    Asks .stageGlobal .service 7#8 (globalForm defaultGlobals)
        (asks .stageGlobal .service (globalForm defaultGlobals) (claimed .service false emptyConfiguration live)) ∧
      globalInRange defaultGlobals = true ∧ (globalForm defaultGlobals).length = 43 := by decide +kernel
theorem witness_StageWritesStagedCopy_range :
    (∀ c, ¬ StagesRecord .stageLine [128#8, 0#8, 0#8, 0#8, 0x13#8, 0x88#8] emptyConfiguration c) ∧
      ([128#8, 0#8, 0#8, 0#8, 0x13#8, 0x88#8] : List Byte).length = 6 := by
  refine ⟨?_, rfl⟩
  rintro c ⟨i, r, _, h, _⟩
  have e : 128#8 = BitVec.ofNat 8 i.1 := (List.cons.inj h).1
  have := congrArg BitVec.toNat e
  have hi : i.1 % 256 = i.1 := Nat.mod_eq_of_lt (by omega)
  simp only [BitVec.toNat_ofNat] at this
  omega
theorem test_staged_cell_read_back : takeCellForm (cellForm 164 entry164) = some (164, entry164, []) := by
  decide +kernel
theorem test_staged_line_out_of_range :
    writeLine (0#8 :: lineForm { fitted := true, zeroTrim := 20001, span := 5000 }) emptyConfiguration = none := by decide
theorem witness_GetConfigReports :
    Asks .getConfig .control 7#8 [0#8, 1#8, 2#8, 127#8] (asks .getConfig .control [0#8, 1#8, 2#8, 127#8] live) ∧
      (2#8).toNat * 256 + (127#8).toNat = 639 ∧
      Asks .getConfig .control 7#8 [1#8, 3#8, 0#8, 0#8]
        (asks .getConfig .control [1#8, 3#8, 0#8, 0#8] (claimed .control false oneCell live)) ∧
      Asks .getConfig .service 7#8 [1#8, 2#8, 0#8, 8#8]
        (asks .getConfig .service [1#8, 2#8, 0#8, 8#8] (claimed .service true oneCell live)) ∧
      Asks .getConfig .service 7#8 [0#8, 0#8, 0#8, 127#8] (asks .getConfig .service [0#8, 0#8, 0#8, 127#8] live) ∧
      Asks .getConfig .service 7#8 [0#8, 4#8, 0#8, 0#8] (asks .getConfig .service [0#8, 4#8, 0#8, 0#8] live) := by decide
theorem witness_GetConfigReports_staged_cell_and_copy :
    Asks .getConfig .service 7#8 [1#8, 1#8, 0#8, 0#8]
        (asks .getConfig .service [1#8, 1#8, 0#8, 0#8] (claimed .service false oneCell live)) ∧
      Asks .getConfig .control 7#8 [2#8, 1#8, 0#8, 0#8] (asks .getConfig .control [2#8, 1#8, 0#8, 0#8] live) ∧
      2 ≤ (2#8).toNat ∧ 4 ≤ (4#8).toNat := by decide
theorem test_staged_code_absent :
    (getStaged .service 1#8 0 (claimed .service false oneCell live)).2 =
      okWith (be16 1 ++ cellForm 0 { sources := [⟨1, 0⟩], fallback := none } ++ [0#8, 0x00#8]) := by decide +kernel
theorem witness_CommitJudged_checks :
    Asks .commit .control 7#8 [] (asks .commit .control [] (claimed .control false badPeriod live)) ∧
      ∃ e, (asks .commit .control [] (claimed .control false badPeriod live)).edit = some e ∧ e.holder = .control ∧
        e.commitPending = false ∧ e.staged = badPeriod := ⟨⟨rfl, rfl⟩, _, rfl, rfl, rfl, rfl⟩
theorem empty_has_no_cell (i : CellIx) : cellExists emptyConfiguration i = false := by
  have : emptyConfiguration.passes.get (passOf i) = defaultPass := get_replicate _ _ _
  simp [cellExists, this, defaultPass]
theorem witness_CommitJudged_alarmed :
    checkConfiguration emptyConfiguration = none ∧ cellExists live.active.config 0 = true ∧
      cellExists emptyConfiguration 0 = false ∧ ((alarmed .lingering .high live).alarms.get 0).state ≠ .idle := by
  refine ⟨empty_passes_checks, by decide +kernel, empty_has_no_cell 0, by decide +kernel⟩
theorem witness_CommitJudged_accepted :
    checkConfiguration emptyConfiguration = none ∧
      ∀ j : CellIx, cellExists State.reset.active.config j = true → cellExists emptyConfiguration j = false →
        (State.reset.alarms.get j).state = .idle :=
  ⟨empty_passes_checks, fun j h _ => by
    have e : cellExists State.reset.active.config j = false := empty_has_no_cell j
    rw [e] at h; cases h⟩
/-- Two cells of pass 0 with their entries, line 1 fitted. -/
def twoCells (a b : CellEntry) : Configuration :=
  { oneCell with
    cells := put (put emptyConfiguration.cells 0 a) 4 b
    passes := put emptyConfiguration.passes 0 { defaultPass with tubeCount := 2 } }
/-- An entry with one source line, and one that borrows from a cell. -/
def sourced (l : Nat) : CellEntry := { sources := [⟨l, 0⟩], fallback := none }
def borrows (f : Nat) : CellEntry := { sources := [], fallback := some ⟨f, 0⟩ }
theorem witness_CommitJudged_sources :
    cellStep (twoCells (sourced 1) emptyEntry) 0 = none ∧
      cellStep (twoCells (sourced 128) emptyEntry) 0 = some ⟨.range, some 0⟩ ∧
      cellStep (twoCells (sourced 16) emptyEntry) 0 = some ⟨.lineReference, some 0⟩ ∧
      cellStep (twoCells (sourced 2) emptyEntry) 0 = some ⟨.lineUnfitted, some 0⟩ ∧
      cellStep { emptyConfiguration with cells := put emptyConfiguration.cells 0 (sourced 1) } 0 =
        some ⟨.cellOutside, some 0⟩ := by decide +kernel
theorem witness_CommitJudged_fallbacks :
    cellStep (twoCells (borrows 4) emptyEntry) 0 = none ∧
      cellStep (twoCells (borrows 0) emptyEntry) 0 = some ⟨.fallbackSelf, some 0⟩ ∧
      cellStep (twoCells (borrows 80) emptyEntry) 0 = some ⟨.fallbackOtherPass, some 0⟩ ∧
      cellStep (twoCells (borrows 79) emptyEntry) 0 = some ⟨.fallbackMissing, some 0⟩ := by decide +kernel
theorem namesLine_two_cells (a b : CellEntry) (i : CellIx) :
    namesLine ((twoCells a b).cells.get i) 1 =
      if 4 = i then namesLine b 1 else if 0 = i then namesLine a 1 else false := by
  rw [show (twoCells a b).cells = put (put emptyConfiguration.cells 0 a) 4 b from rfl, put_get, put_get,
    show emptyConfiguration.cells.get i = emptyEntry from get_replicate _ _ _]
  by_cases h : 4 = i <;> by_cases k : 0 = i <;> simp only [h, k, if_true, if_false] <;> rfl
theorem witness_CommitJudged_reuse :
    namingCells (twoCells (sourced 1) (sourced 1)) 1 = 2 ∧ namingCells (twoCells (sourced 1) emptyEntry) 1 = 1 := by
  unfold namingCells
  simp only [namesLine_two_cells]
  decide +kernel
theorem witness_GetLineReports_served :
    servedCell live.active.config 1 = some 0 ∧ servedCell live.active.config 0 = none ∧
      servedCell live.active.config 2 = none ∧ (live.active.config.lines.get 2).fitted = false ∧
      servedCell (twoCells (sourced 1) (sourced 1)) 1 = some 0 ∧ servedCell (twoCells emptyEntry (sourced 1)) 1 = some 4 ∧
      servedCell (twoCells emptyEntry emptyEntry) 1 = none ∧
      cellExists (twoCells emptyEntry emptyEntry) 4 = true ∧ cellExists (twoCells emptyEntry emptyEntry) 5 = false ∧
      cellExists (twoCells emptyEntry emptyEntry) 8 = false := by
  decide +kernel
theorem witness_CommitJudged_bounds :
    globalStep { emptyConfiguration with globals := { defaultGlobals with sweepPeriod := 250 } } = none ∧
      globalStep badPeriod = some ⟨.range, none⟩ ∧
      passStep { emptyConfiguration with passes := put emptyConfiguration.passes 7 { defaultPass with high := 13500 } } 7 =
        some ⟨.limitOrder, some 7⟩ ∧
      passStep { emptyConfiguration with passes := put emptyConfiguration.passes 7 { defaultPass with high := 13501 } } 7 =
        some ⟨.range, some 7⟩ := by decide +kernel
/-- A reading and a scan entry stamped 0. -/
def oldThings (s : State) : State :=
  { s with
    readings := put s.readings 1 { Reading.blank with status := .ok, temperature := some 6000, quality := some .good }
    scanTable := put s.scanTable 0 (some { temperature := 6000, stamp := 0#32 }) }
theorem witness_OldThingsExpire :
    (elapse 1 (atTime 299999#32 (claimed .control false oneCell live))).timebase.partTime = 300000#32 ∧
      (elapse 1 (atTime 299999#32 (claimed .control false oneCell live))).edit.bind (fun e => e.timer) = some 0#32 ∧
      (elapse 1 (atTime 29999#32 { live with batch := some (openBatch []) })).timebase.partTime = 30000#32 ∧
      (elapse 1 (atTime 29999#32 { live with batch := some (openBatch []) })).batch = some (openBatch []) ∧
      ((elapse 1 (atTime 2147483647#32 (oldThings live))).readings.get 1).status ≠ .none ∧
      (elapse 1 (atTime 2147483647#32 (oldThings live))).timebase.partTime = 2147483648#32 ∧
      (elapse 1 (atTime 2147483647#32 (oldThings live))).scanTable.get 0 = some { temperature := 6000, stamp := 0#32 } ∧
      State.reset.edit = none ∧ State.reset.batch = none := by decide +kernel
theorem witness_OldThingsExpire_nothing_to_expire :
    (live.readings.get 1).status = .none ∧ live.scanTable.get 0 = none ∧ live.batch = none ∧
      (claimed .control true oneCell live).edit.bind (fun e => e.timer) = none ∧
      (elapse 0 (atTime 299999#32 (claimed .control false oneCell live))).timebase.partTime = 299999#32 ∧
      (elapse 0 (atTime 29999#32 { live with batch := some (openBatch []) })).timebase.partTime = 29999#32 ∧
      (elapse 0 (atTime 2147483647#32 (oldThings live))).timebase.partTime = 2147483647#32 := by decide +kernel

/-! ### Witnesses: the scan unit, the store, the restart request -/

theorem witness_ScanOpenOpensBatch :
    Asks .scanOpen .service 7#8 [] (asks .scanOpen .service [] live) ∧ (asks .scanOpen .service [] live).batch = none ∧
      Asks .scanOpen .service 7#8 [0#8] (asks .scanOpen .service [0#8] live) ∧
      (asks .scanOpen .service [] { live with batch := some (openBatch []) }).batch = some (openBatch []) := by decide
theorem witness_ScanDropDiscardsBatch :
    Asks .scanDrop .service 7#8 [] (asks .scanDrop .service [] live) ∧ (asks .scanDrop .service [] live).batch = none ∧
      Asks .scanDrop .service 7#8 [0#8] (asks .scanDrop .service [0#8] live) ∧
      (asks .scanDrop .service [] { live with batch := some (openBatch [⟨0, 6000⟩]) }).batch =
        some (openBatch [⟨0, 6000⟩]) := by decide
theorem witness_ScanCloseAppliesBuffer :
    Asks .scanClose .service 7#8 [] (asks .scanClose .service [] live) ∧ (asks .scanClose .service [] live).batch = none ∧
      (asks .scanClose .service [] { live with batch := some (openBatch [⟨0, 6000⟩]) }).batch =
        some (openBatch [⟨0, 6000⟩]) ∧
      ((openBatch [⟨0, 6000⟩]).buffer.map fun x => x.cell).Nodup := by decide
/-- A run of SCAN_PUT at its start. -/
def startRun (b : Batch) : PutRun :=
  { batch := b, tally := { accepted := 0, replaced := 0, rejected := 0, refused := 0 }, logged := none }
theorem witness_ScanPutJudged_samples :
    (13500 < (13501 : Int)) ∧ (-501 < (-500 : Int)) ∧ cellExists live.active.config 1 = false ∧
      cellExists live.active.config 0 = true ∧ (∃ x, x ∈ (startRun (openBatch [⟨0, 6000⟩])).batch.buffer ∧ x.cell = 0) ∧
      (∀ x, x ∈ (startRun (openBatch [])).batch.buffer → x.cell ≠ 0) ∧
      (startRun (openBatch [])).batch.buffer.length < 256 ∧
      256 ≤ (startRun (openBatch ((List.finRange 640).drop 384 |>.map fun i => ⟨i, 0⟩))).batch.buffer.length ∧
      (∀ x, x ∈ (startRun (openBatch ((List.finRange 640).drop 384 |>.map fun i => ⟨i, 0⟩))).batch.buffer →
        x.cell ≠ 0) := by
  refine ⟨by decide, by decide, by decide +kernel, by decide +kernel, ⟨⟨0, 6000⟩, by decide, rfl⟩, by decide, by decide,
    by decide +kernel, by decide +kernel⟩
theorem test_sample_bounds :
    (handleSample oneCell (startRun (openBatch [])) (0, 13500)).tally.accepted = 1 ∧
      (handleSample oneCell (startRun (openBatch [])) (0, -501)).tally.rejected = 1 ∧
      (handleSample oneCell (startRun (openBatch [])) (640, 0)).logged = some .none ∧
      (handleSample oneCell (startRun (openBatch [])) (639, 0)).logged = some (.cell 639) := by decide +kernel
theorem witness_ScanPutJudged_request :
    Asks .scanPut .service 7#8 [1#8, 0#8, 0#8, 0x17#8, 0x70#8]
        (asks .scanPut .service [1#8, 0#8, 0#8, 0x17#8, 0x70#8] { live with batch := some (openBatch []) }) ∧
      [1#8, 0#8, 0#8, 0x17#8, 0x70#8] = BitVec.ofNat 8 [(0, 0x17#8, 0x70#8)].length ::
        [(0, 0x17#8, 0x70#8)].flatMap (fun x => be16 x.1 ++ [x.2.1, x.2.2]) ∧
      Asks .scanPut .service 7#8 [] (asks .scanPut .service [] { live with batch := some (openBatch []) }) ∧
      Asks .scanPut .service 7#8 [] (asks .scanPut .service [] live) ∧ (asks .scanPut .service [] live).batch = none := by
  decide
theorem witness_ScanPutJudged_buffer :
    ([⟨0, 6000⟩, ⟨2, 6100⟩] : List Sample).Pairwise (fun a b => a.cell.1 < b.cell.1) ∧
      (∃ y, y ∈ ([⟨0, 6000⟩, ⟨2, 6100⟩] : List Sample) ∧ y.cell = 2) ∧
      (∀ y, y ∈ ([⟨0, 6000⟩, ⟨2, 6100⟩] : List Sample) → y.cell ≠ 1) ∧
      putSample ⟨2, 1⟩ [⟨0, 6000⟩, ⟨2, 6100⟩] = [⟨0, 6000⟩, ⟨2, 1⟩] ∧
      putSample ⟨1, 1⟩ [⟨0, 6000⟩, ⟨2, 6100⟩] = [⟨0, 6000⟩, ⟨1, 1⟩, ⟨2, 6100⟩] :=
  ⟨by decide, ⟨⟨2, 6100⟩, by decide, rfl⟩, by decide, by decide, by decide⟩
theorem test_thirteen_samples_refused : putSamples (13#8 :: List.replicate 52 0#8) = none := by decide
theorem witness_StoreImageBegins :
    Asks .storeImage .control 7#8 [] (asks .storeImage .control [] live) ∧
      (asks .storeImage .control [] live).strap = false ∧ (asks .storeImage .control [] live).store = none ∧
      (asks .storeImage .control [] live).restartPending = none ∧
      (asks .storeImage .control [] { live with strap := true }).strap = true ∧
      (asks .storeImage .service [] restartPends).restartPending ≠ none := by decide
/-- A store in flight. -/
def storing (stage : StoreStage) (s : State) : State :=
  { s with store := some { port := .service, stage := stage, config := emptyConfiguration, generation := 0#16 } }
theorem witness_RestartPendsAndBegins :
    Asks .restart .service 7#8 [] (asks .restart .service [] live) ∧ (asks .restart .service [] live).store = none ∧
      (asks .restart .service [] live).restartPending = none ∧ (asks .restart .service [] (storing .erase live)).store ≠ none ∧
      (asks .restart .service [] restartPends).restartPending = some 0#32 ∧
      (elapse 100 restartPends).timebase.partTime = 100#32 ∧ (elapse 99 restartPends).timebase.partTime = 99#32 ∧
      restartPends.restartPending = some 0#32 ∧ restartPends.pins.resetLow = false ∧ restartPends.pins.coreLow = false ∧
      restartPends.pins.holdSupply = true := by decide
theorem witness_RestartPendsAndBegins_hold : restartPends.hold.check = holdCrc restartPends.hold.contents := rfl
theorem witness_RestartPendsAndBegins_sequence :
    let lost := { restartPends with pins := { restartPends.pins with holdSupply := false } }
    lost.pins.resetLow = false ∧ lost.pins.coreLow = false ∧ lost.pins.holdSupply = false ∧
      ({ restartPends.pins with resetLow := true } : Pins).resetLow = true ∧
      (beginWarm .request lost).cause = .holdLost := ⟨rfl, rfl, rfl, rfl, rfl⟩

/-! ### Witnesses: capture groups and the timebase -/

/-- A reading of line 1. -/
def readingOfLine1 (stamp : Word) : Vector Reading 128 :=
  put (Vector.replicate 128 Reading.blank) 1
    { Reading.blank with status := .ok, temperature := some 13400, quality := some .good, stamp := stamp }
theorem oneCell_cells : ∀ i : CellIx, cellExists oneCell i = true ↔ i = 0 := by decide +kernel
theorem witness_ScanListBuilt_used :
    1 ≤ (oneCell.globals.groups.get 0).interleave ∧ ([1] : List SlotIx).Pairwise (fun a b => a.1 < b.1) ∧
      ∀ s : SlotIx, s ∈ ([1] : List SlotIx) ↔ s ≠ 0 ∧ (oneCell.lines.get (lineOf 0 s)).fitted = true ∧
        ∃ i, cellExists oneCell i = true ∧ ∃ item ∈ (oneCell.cells.get i).sources, item.line = (lineOf 0 s).1 := by
  refine ⟨by decide +kernel, by decide, ?_⟩
  simp only [oneCell_cells, exists_eq_left]
  decide +kernel
theorem witness_ScanListBuilt_parked :
    ∀ s : SlotIx, s ∈ ([] : List SlotIx) ↔ s ≠ 0 ∧ (emptyConfiguration.lines.get (lineOf 0 s)).fitted = true ∧
      ∃ i, cellExists emptyConfiguration i = true ∧
        ∃ item ∈ (emptyConfiguration.cells.get i).sources, item.line = (lineOf 0 s).1 := by
  simp [empty_has_no_cell]
theorem witness_MeasurementStagesAdvance_settle_and_arm :
    ((elapse 1 (measuring 1 64 .settle 0 0 live)).groups.get 0).measurement =
        some { slot := 1, window := 64, stage := .settle, aborts := 0, timer := 1 } ∧
      ((measuring 1 64 .arm 0 10 live).groups.get 0).measurement =
        some { slot := 1, window := 64, stage := .arm, aborts := 0, timer := 10 } := by decide +kernel
theorem witness_MeasurementStagesAdvance_count :
    ((measuring 1 64 (.count 0#16 .mhz8 62 100) 0 10 live).groups.get 0).measurement =
        some { slot := 1, window := 64, stage := .count 0#16 .mhz8 62 100, aborts := 0, timer := 10 } ∧ 62 + 1 < 64 ∧
      ((measuring 1 64 (.count 0#16 .mhz8 63 100) 0 0 live).groups.get 0).measurement =
        some { slot := 1, window := 64, stage := .count 0#16 .mhz8 63 100, aborts := 0, timer := 0 } ∧ 63 + 1 = 64 := by
  decide +kernel
theorem witness_MeasurementStagesAdvance_width :
    ((measuring 1 64 (.width 0#16 .mhz8 100 none) 0 10 live).groups.get 0).measurement =
        some { slot := 1, window := 64, stage := .width 0#16 .mhz8 100 none, aborts := 0, timer := 10 } := by decide
theorem witness_MeasurementStagesAdvance_bounds :
    let at64 := measuring 1 64 (.count 0#16 .mhz64 3 9) 0 0 live
    let ended := measuring 1 64 (.count 1#16 .mhz8 3 9) 0 0 live
    ((cycleCloseEvent 0 640000 at64).groups.get 0).measurement.map (fun m => m.stage) =
        some (.count 0#16 .mhz64 4 640009) ∧ cycleCloseEvent 0 640001 at64 = at64 ∧
      ((cycleCloseEvent 0 640000 ended).groups.get 0).measurement.map (fun m => m.stage) =
        some (.count 1#16 .mhz8 4 640009) :=
  ⟨by decide +kernel, rfl, by decide +kernel⟩
/-- Group 0 with an application made while it measures. -/
def appliedTo (s : State) : State := updateGroup (fun _ _ x => { x with applied := true }) 0 s
theorem line_1_used : UsedSlot oneCell 0 1 :=
  ⟨by decide, by decide +kernel, 0, by decide +kernel, ⟨1, 0⟩, by decide +kernel, by decide⟩
theorem witness_PostStores_wanted :
    Wanted live.active.config 0 1 ∧ ¬ Wanted live.active.config 0 2 ∧ ¬ Wanted live.active.config 0 0 ∧
      Wanted (twoCells { sources := [⟨1, 0⟩], fallback := none } emptyEntry) 0 1 := by
  refine ⟨.inl line_1_used, ?_, ?_, .inl ?_⟩
  · rintro (⟨_, h, _⟩ | ⟨h, _⟩)
    · exact absurd h (by decide +kernel)
    · exact absurd h (by decide)
  · rintro (⟨h, _⟩ | ⟨_, h, _⟩)
    · exact absurd rfl h
    · exact absurd h (by decide +kernel)
  · exact ⟨by decide, by decide +kernel, 0, by decide +kernel, ⟨1, 0⟩, by decide +kernel, by decide⟩
/-- The reference line of group 0 fitted beside line 1. -/
def withReference : Configuration :=
  { oneCell with lines := put oneCell.lines 0 { defaultLine with fitted := true } }
theorem witness_PostStores_reference_wanted : Wanted withReference 0 0 :=
  .inr ⟨rfl, by decide +kernel, 1, by decide, by decide +kernel, 0, by decide +kernel, ⟨1, 0⟩, by decide +kernel, by decide⟩
theorem test_interleave_of_0 :
    scanListOf { withReference with globals := { defaultGlobals with
      groups := Vector.replicate 8 { window := 64, interleave := 0 } } } 0 = [0, 1] := by decide +kernel
theorem witness_PostStores_before :
    (live.readings.get (lineOf 0 1)).status = .none ∧ (readingOfLine1 0#32 |>.get (lineOf 0 1)).status = .ok ∧
      ((put live.readings 1 { Reading.blank with status := .dutyBad }).get (lineOf 0 1)).status ≠ .none ∧
      ((appliedTo (measuring 1 64 .arm 0 0 live)).groups.get 0).applied = true ∧
      ((measuring 0 64 .arm 0 0 live).groups.get 0).applied = false ∧
      ((measuring 0 64 .arm 0 0 live).groups.get 0).refStatus ≠ .fault := by decide +kernel
theorem witness_TimeoutsStoreNoSignal :
    live.stage = .running ∧ ((elapse 10 (measuring 1 64 .arm 0 0 live)).groups.get 0).measurement =
        some { slot := 1, window := 64, stage := .arm, aborts := 0, timer := 10 } ∧
      ((elapse 10 (measuring 1 64 (.count 0#16 .mhz8 3 9) 0 0 live)).groups.get 0).measurement =
        some { slot := 1, window := 64, stage := .count 0#16 .mhz8 3 9, aborts := 0, timer := 10 } ∧
      ((elapse 10 (measuring 1 64 (.width 0#16 .mhz8 9 none) 0 0 live)).groups.get 0).measurement =
        some { slot := 1, window := 64, stage := .width 0#16 .mhz8 9 none, aborts := 0, timer := 10 } ∧
      ((elapse 10 (measuring 1 64 .arm 0 0 live)).groups.get 0).applied = false ∧
      (elapse 10 (measuring 1 64 .arm 0 0 live)).timebase.epoch = 0#16 ∧
      ((elapse 10 (measuring 1 64 .arm 0 0 live)).readings.get 1).status = .none := by decide +kernel
theorem witness_TimeoutsStoreNoSignal_reference :
    ((elapse 10 (measuring 0 64 .arm 0 0 live)).groups.get 0).measurement =
        some { slot := 0, window := 64, stage := .arm, aborts := 0, timer := 10 } ∧
      ((elapse 10 (appliedTo (measuring 1 64 .arm 0 0 live))).groups.get 0).applied = true := by decide +kernel
theorem witness_WidthEndStoresReading :
    ((measuring 1 64 (.width 0#16 .mhz64 743000 (some 5700)) 0 10 live).groups.get 0).measurement =
        some { slot := 1, window := 64, stage := .width 0#16 .mhz64 743000 (some 5700), aborts := 0, timer := 10 } ∧
      roundDiv (100 * 64 * 64000000) 743000 = 551279 ∧ roundDiv (5700 * 1000 * 64 : Nat) 743000 = 491 ∧
      (150000 : Int) ≤ 551279 ∧ (551279 : Int) ≤ 850000 ∧
      roundDiv ((551279 - (200000 + 0)) * 100) 5000 = 7026 ∧ live.active.config.lines.get 1 =
        { fitted := true, zeroTrim := 0, span := 5000 } := by decide +kernel
theorem witness_WidthEndStoresReading_statuses :
    roundDiv (100 * 64 * 64000000) 481883 = 849999 ∧ (850000 : Int) < roundDiv (100 * 64 * 64000000) 481882 ∧
      roundDiv (2300 * 1000 * 64 : Nat) 743000 = 198 ∧ roundDiv (2322 * 1000 * 64 : Nat) 743000 = 200 ∧
      roundDiv (4632 * 1000 * 64 : Nat) 743000 = 399 ∧ (13500 : Int) < roundDiv ((849000 - (200000 + -20000)) * 100) 4000 ∧
      (485000 : Int) ≤ roundDiv (100 * 64 * 64000000) 818000 ∧ roundDiv (100 * 64 * 64000000) 818000 ≤ 515000 ∧
      ((measuring 0 64 (.width 0#16 .mhz64 818000 (some 6300)) 0 10 live).groups.get 0).measurement =
        some { slot := 0, window := 64, stage := .width 0#16 .mhz64 818000 (some 6300), aborts := 0, timer := 10 } := by
  decide +kernel
/-- Group 0 with a last reference. -/
def referred (epoch : Half) (stamp : Word) (s : State) : State :=
  updateGroup (fun _ _ x => { x with lastRef := some { frequency := 500740, epoch := epoch, stamp := stamp } }) 0 s
theorem witness_WidthEndStoresReading_reference :
    let s := atTime 10000#32 live
    ((referred 0#16 0#32 s).groups.get 0).lastRef = some { frequency := 500740, epoch := 0#16, stamp := 0#32 } ∧
      s.timebase.epoch = 0#16 ∧ (s.timebase.partTime - 0#32).toNat ≤ s.active.config.globals.referenceAge * 1000 ∧
      ((referred 1#16 0#32 s).groups.get 0).lastRef.map (fun r => r.epoch) = some 1#16 ∧
      s.active.config.globals.referenceAge * 1000 < ((atTime 10001#32 live).timebase.partTime - 0#32).toNat ∧
      (live.groups.get 0).lastRef = none := by decide +kernel
theorem witness_EpochChangeAborts :
    ((measuring 1 64 (.width 1#16 .mhz8 100 (some 50)) 0 0 live).groups.get 0).measurement =
        some { slot := 1, window := 64, stage := .width 1#16 .mhz8 100 (some 50), aborts := 0, timer := 0 } ∧
      ((measuring 1 64 (.width 1#16 .mhz8 100 (some 50)) 1 0 live).groups.get 0).measurement =
        some { slot := 1, window := 64, stage := .width 1#16 .mhz8 100 (some 50), aborts := 1, timer := 0 } ∧
      1#16 ≠ live.timebase.epoch ∧ ((measuring 1 64 .arm 0 0 live).groups.get 0).scanList[1]? = some 2 ∧
      ((measuring 1 64 .arm 0 0 live).groups.get 0).cursor + 1 <
        ((measuring 1 64 .arm 0 0 live).groups.get 0).scanList.length := by decide
theorem witness_EpochChangeAborts_timeouts :
    ((elapse 10 (measuring 1 64 (.count 1#16 .mhz8 3 9) 0 0 live)).groups.get 0).measurement =
        some { slot := 1, window := 64, stage := .count 1#16 .mhz8 3 9, aborts := 0, timer := 10 } ∧
      ((elapse 10 (measuring 1 64 (.width 1#16 .mhz8 9 none) 1 0 live)).groups.get 0).measurement =
        some { slot := 1, window := 64, stage := .width 1#16 .mhz8 9 none, aborts := 1, timer := 10 } ∧
      ((appliedTo (measuring 1 64 (.width 1#16 .mhz8 100 (some 50)) 0 0 live)).groups.get 0).applied = true ∧
      ((elapse 10 (measuring 1 64 .arm 0 0 live)).timebase.epoch ≠ 1#16) := by decide +kernel
/-- The timebase unit with its timers and flags. -/
def withTimers (state : TimebaseState) (breakSeen : Bool) (proving lock retry : Option Nat) (s : State) : State :=
  { s with timebase := { s.timebase with state := state, breakSeen := breakSeen, proving := proving, lock := lock,
                                         retry := retry, gapArmed := true } }
theorem witness_CrystalSupervised :
    (withTimers .holdover false none none none live).timebase.gapArmed = true ∧
      (withTimers .holdover false none none none live).timebase.state = .holdover ∧
      (withTimers .locked false none none none live).timebase.state ≠ .holdover ∧
      (elapse 1 (withTimers .holdover false (some 63) none none live)).timebase.proving = some 64 ∧
      (elapse 0 (withTimers .holdover false (some 63) none none live)).timebase.proving = some 63 ∧
      live.active.config.globals.multiplierEnable = true ∧
      ({ live.active.config with globals := { defaultGlobals with multiplierEnable := false } } :
        Configuration).globals.multiplierEnable = false := by decide
theorem witness_LockReportsJudged :
    (withTimers .acquiring false none (some 0) none live).timebase.state = .acquiring ∧
      (withTimers .locked true none none none live).timebase.breakSeen = true ∧
      (withTimers .locked false none none none live).timebase.breakSeen = false ∧
      live.active.config.globals.relock = .relock ∧
      ({ defaultGlobals with relock := .ride } : GlobalRecord).relock = .ride ∧ live.stage = .running := by decide
theorem witness_AcquisitionTimesOut :
    (elapse 10 (withTimers .acquiring false none (some 0) none live)).timebase.lock = some 10 ∧
      (elapse 9 (withTimers .acquiring false none (some 0) none live)).timebase.lock = some 9 ∧
      (elapse 1000 (withTimers .bypass false none none (some 0) live)).timebase.retry = some 1000 ∧
      (elapse 999 (withTimers .bypass false none none (some 0) live)).timebase.retry = some 999 ∧
      (elapse 10 (withTimers .acquiring false none (some 0) none live)).timebase.state = .acquiring ∧
      (elapse 1000 (withTimers .bypass false none none (some 0) live)).timebase.state = .bypass := by decide

/-! ### Witnesses: the sweep -/

/-- A sweep in flight with cell 0 to be computed. -/
def sweeping (s : State) : State :=
  { s with sweep := some { number := 1#32, todo := [0], working := blankCopy } }
theorem witness_SweepBoundaryStartsSweep :
    (elapse 1000 live).timebase.partTime = 1000#32 ∧ (elapse 1000 live).nextBoundary = 1000#32 ∧
      (elapse 999 live).timebase.partTime = 999#32 ∧ (elapse 1000 live).sweep = none ∧
      (elapse 1000 live).edit = none ∧ (elapse 1000 (sweeping live)).sweep ≠ none ∧
      cellExists (elapse 1000 live).active.config 0 = true := by
  refine ⟨rfl, rfl, rfl, rfl, rfl, (by intro h; cases h), by decide +kernel⟩
theorem witness_SweepBoundaryStartsSweep_settled (q : PassIx) : (live.passes.get q).target = none ∧
    live.passes.get q = PassService.online := by
  have h : live.passes.get q = PassService.online := get_replicate _ _ _
  exact ⟨by rw [h]; rfl, h⟩
theorem witness_SweepStartConsidersCommit :
    (∃ e, (claimed .control true emptyConfiguration live).edit = some e ∧ e.commitPending = true ∧
        e.staged = emptyConfiguration) ∧
      (storing .erase live).store ≠ none ∧ live.store = none ∧
      cellExists live.active.config 0 = true ∧ cellExists emptyConfiguration 0 = false ∧
      ((alarmed .held .high live).alarms.get 0).state ≠ .idle ∧ (live.alarms.get 0).state = .idle := by
  refine ⟨⟨_, rfl, rfl, rfl⟩, (by intro h; cases h), rfl, by decide +kernel, empty_has_no_cell 0, by decide +kernel,
    by decide +kernel⟩
/-- Globals with a multiplier enable and a spall overdue. -/
def withGlobals (enable : Bool) (overdue : Nat) (c : Configuration) : Configuration :=
  { c with globals := { c.globals with multiplierEnable := enable, spallOverdue := overdue } }
theorem witness_SweepStartConsidersCommit_effects :
    let s := inPass .spall none (some 600000) (inState .locked (claimed .service true (withGlobals false 10 oneCell) live))
    let t := considerCommit s
    (∀ i, cellExists s.active.config i = true → cellExists (withGlobals false 10 oneCell) i = false →
        (s.alarms.get i).state = .idle) ∧
      t.timebase.state = .bypass ∧ t.timebase.epoch = s.timebase.epoch + 1#16 ∧
      (t.passes.get 0).overdueNotified = true ∧ t.ports.control.notices.spallOverdue = true ∧
      t.ports.trip.notices.spallOverdue = false ∧ t.ports.trip.notices.configApplied = true ∧
      (s.groups.get 0).measurement = none ∧ ((measuring 1 64 .arm 0 0 s).groups.get 0).measurement ≠ none := by
  refine ⟨fun i h k => ?_, ?_⟩
  · have e : cellExists (withGlobals false 10 oneCell) i = cellExists oneCell i := rfl
    rw [e] at k
    exact absurd (show cellExists oneCell i = true from h) (by rw [k]; exact Bool.false_ne_true)
  · decide +kernel
theorem witness_PassSettlingEntersTarget :
    (live.active.config.passes.get 7).tubeCount = 0 ∧ 1 ≤ (live.active.config.passes.get 0).tubeCount ∧
      (live.passes.get 0).target = none ∧
      ((inPass .online (some .spall) none live).passes.get 0).target = some .spall ∧
      ((inPass .spall (some .spall) (some 5) live).passes.get 0).target = some .spall ∧
      ((inPass .spall (some .spall) (some 5) live).passes.get 0).state = .spall := by decide +kernel
theorem witness_PassSettlingEntersTarget_unused_and_offline :
    (State.reset.active.config.passes.get 0).tubeCount = 0 ∧ (State.reset.passes.get 0) = PassService.online ∧
      ((inPass .spall none (some 5) State.reset).passes.get 0).state ≠ .online ∧
      ((inPass .online (some .offline) none State.reset).passes.get 0).target ≠ none ∧
      (inPass .offline (some .spall) none live).passes.get 0 =
        { state := .offline, target := some .spall, spallTimer := none, overdueNotified := false } ∧
      passOf 0 = 0 ∧ cellExists live.active.config 0 = true := by decide +kernel
theorem test_offline_to_spall_holds_nothing :
    (enterWorking .offline .spall { Working.restart with lastEstimate := some 6000, staleCounter := 3 }).lastEstimate =
      none := by decide
theorem witness_ContributorsAreFreshReadings :
    ((readingOfLine1 0#32).get 1).temperature = some 13400 ∧ ((readingOfLine1 0#32).get 1).quality = some .good ∧
      contributorOf defaultGlobals 5000#32 (readingOfLine1 0#32) ⟨1, 500⟩ = some { value := 13500, quality := .good } ∧
      contributorOf defaultGlobals 5001#32 (readingOfLine1 0#32) ⟨1, 500⟩ = none := by decide +kernel
theorem witness_ContributorsAreFreshReadings_not_ok :
    (live.readings.get 1).status ≠ .ok ∧ (live.readings.get 1).temperature = none ∧ 128 ≤ 128 ∧
      contributorOf defaultGlobals 0#32 live.readings ⟨1, 0⟩ = none ∧
      contributorOf defaultGlobals 0#32 (readingOfLine1 0#32) ⟨128, 0⟩ = none := by decide +kernel
theorem witness_ContributorsAreFreshReadings_reference :
    let readings := put live.readings 16 { Reading.blank with status := .ok, quality := some .good }
    (readings.get 16).status = .ok ∧ (readings.get 16).temperature = none ∧
      contributorOf defaultGlobals 0#32 readings ⟨16, 0⟩ = none := by decide +kernel
theorem witness_CellOutcomeTable :
    ((inPass .offline none none live).passes.get (passOf 0)).state = .offline ∧
      (live.passes.get (passOf 0)).state ≠ .offline ∧ checkCode 0 (oneCell.cells.get 0) = live.active.codes.get 0 ∧
      checkCode 0 (oneCell.cells.get 0) ≠ 0#8 ∧ (live.working.get 0).ageCounter ≤ 255 ∧
      live.scanTable.get 0 = none ∧ ((oldThings live).scanTable.get 0).isSome = true ∧
      (oneCell.cells.get 0).sources.filterMap (contributorOf defaultGlobals 0#32 live.readings) = [] ∧
      (oneCell.cells.get 0).sources.filterMap (contributorOf defaultGlobals 0#32 (readingOfLine1 0#32)) =
        [{ value := 13400, quality := .good }] ∧
      neighbourEstimate live (oneCell.cells.get 0).fallback = none ∧ (live.working.get 0).lastEstimate = none := by
  decide +kernel
/-- Pass 0 published, cell 0 with a record. -/
def publishing (r : CellRecord) (s : State) : State :=
  { s with published := (put s.published 0 (some
      { sweep := 1#32, generation := 1#16, tubeCount := 1, levelCount := 4, records := put blankCopy 0 r })) }
theorem witness_CellOutcomeTable_neighbour :
    let r : CellRecord := { CellRecord.unpublished with estimate := some 13400, quality := .good, source := .heads }
    let s := publishing r live
    neighbourEstimate s (some ⟨0, 500⟩) = some 13500 ∧ neighbourEstimate s (some ⟨640, 0⟩) = none ∧
      live.published.get (passOf 0) = none ∧ neighbourEstimate live (some ⟨0, 0⟩) = none ∧
      s.published.get (passOf 0) = some
        { sweep := 1#32, generation := 1#16, tubeCount := 1, levelCount := 4, records := put blankCopy 0 r } ∧
      neighbourEstimate (publishing { r with source := .scan } live) (some ⟨0, 0⟩) = none ∧
      ([⟨6000, .good⟩, ⟨6250, .good⟩] : List Contributor) ≠ [] ∧ spread [⟨6000, .good⟩, ⟨6250, .good⟩] = 250 ∧
      largestValue [⟨6000, .good⟩, ⟨6250, .good⟩] = 6250 := by decide +kernel
theorem test_case_table_rows :
    (caseTable defaultGlobals [⟨6000, .good⟩, ⟨6250, .good⟩] none none Working.restart).estimate = some 6125 ∧
      (caseTable defaultGlobals [⟨6000, .good⟩, ⟨6251, .good⟩] none none Working.restart).source = .headsSplit ∧
      (caseTable defaultGlobals [⟨6000, .good⟩] (some 6300) none Working.restart).source = .heads ∧
      (caseTable defaultGlobals [⟨6000, .good⟩] (some 6301) none Working.restart).source = .scanOverride ∧
      (caseTable defaultGlobals [] none (some 6000) Working.restart).source = .neighbor ∧
      (caseTable defaultGlobals [] none none { Working.restart with lastEstimate := some 1, staleCounter := 29 }).source =
        .held ∧
      (caseTable defaultGlobals [] none none { Working.restart with lastEstimate := some 1, staleCounter := 30 }).source =
        .none := by decide
theorem witness_GoodCellsRestOnGoodReadings : (sweeping live).sweep = some { number := 1#32, todo := [0], working := blankCopy } ∧
    ({ number := 1#32, todo := [0], working := blankCopy } : SweepRun).todo = 0 :: [] := ⟨rfl, rfl⟩
theorem test_good_cell_reached :
    (cellOutcome { live with readings := readingOfLine1 0#32 } 0).quality = .good ∧
      (cellOutcome { live with readings := readingOfLine1 0#32 } 0).source = .heads ∧
      (cellOutcome live 0).source ≠ .heads := by decide +kernel
theorem witness_CellComputationAdvancesSweep_quality :
    (cellOutcome live 0).quality = .noData ∧ (cellOutcome { live with readings := readingOfLine1 0#32 } 0).quality = .good ∧
      (cellOutcome { live with readings := readingOfLine1 0#32 } 0).estimate = some 13400 ∧
      (live.working.get 0).rateRef = none := by decide +kernel
theorem witness_CellComputationAdvancesSweep_rate :
    updateRate defaultGlobals 31#32 .good (some 6100)
        { Working.restart with rateRef := some { estimate := 6000, sweep := 1#32 } } =
      (some { estimate := 6100, sweep := 31#32 }, some 200) ∧
      updateRate defaultGlobals 30#32 .good (some 6100)
          { Working.restart with rateRef := some { estimate := 6000, sweep := 1#32 }, rate := some 7 } =
        (some { estimate := 6000, sweep := 1#32 }, some 7) := by decide

/-! ### Witnesses: the restart and the image -/

theorem witness_RestartCausesBeginSequence :
    live.pins.resetLow = false ∧ live.pins.coreLow = false ∧ live.pins.holdSupply = true ∧
      ({ live.pins with resetLow := true } : Pins).resetLow = true ∧
      ({ live.pins with coreLow := true } : Pins).coreLow = true := by decide
/-- A sequence held by RESET_N. -/
def heldLow (cause : RestartCause) (coreLow : Bool) (s : State) : State :=
  { s with stage := .resetHeld, cause := cause, pins := { s.pins with resetLow := true, coreLow := coreLow } }
theorem witness_HoldCheckDecidesWarm :
    (heldLow .resetPin true live).stage = .resetHeld ∧ (heldLow .resetPin true live).pins.coreLow = true ∧
      (heldLow .powerOn false live).cause = .powerOn ∧ (heldLow .resetPin false live).cause = .resetPin ∧
      (heldLow .resetPin false live).pins.holdSupply = true ∧ (heldLow .resetPin false live).pins.coreLow = false := by
  decide
theorem witness_HoldCheckDecidesWarm_check :
    (heldLow .resetPin false live).hold.check = holdCrc (heldLow .resetPin false live).hold.contents ∧
      (unsealHold (clearedHold .holdLost)).check ≠ holdCrc (unsealHold (clearedHold .holdLost)).contents := by
  refine ⟨rfl, fun h => ?_⟩
  have e : ~~~ holdCrc (clearedHold .holdLost) = holdCrc (clearedHold .holdLost) := h
  have := congrArg (fun v => v.getLsbD 0) e
  simp at this
theorem witness_ImageLoadOutcome_stops :
    ({ State.reset with stage := .imageLoad, strap := true } : State).strap = true ∧
      ({ State.reset with flash := { ident := .allOnes, region := [] } } : State).flash.ident ≠ .part ∧
      State.reset.strap = false ∧ State.reset.flash.ident = .part ∧
      readImage State.reset.flash.region = .check ∧ readBytes [] 0 4 ≠ [0x54#8, 0x56#8, 0x32#8, 0x36#8] := by decide +kernel
theorem witness_ImageLoadOutcome_codes (i : CellIx) :
    (loadedConfig .absent).codes.get i = checkCode i.1 ((loadedConfig .absent).config.cells.get i) := get_ofFn _ _

/-- The image of the empty configuration, in a blank region. -/
def storedEmpty : List Byte := imageBytes emptyConfiguration 0#16
theorem witness_StoredImageLoads : Memory.wf [] = true ∧ checkConfiguration emptyConfiguration = none :=
  ⟨rfl, empty_passes_checks⟩
theorem test_shortest_image_length : storedEmpty.length = 3369 := by
  have hl : (emptyConfiguration.lines.toList.flatMap lineForm).length = 640 := by
    rw [show emptyConfiguration.lines.toList = List.replicate 128 defaultLine from Vector.toList_replicate,
      List.length_flatMap, List.map_replicate, List.sum_replicate_nat]
    rfl
  have hp : (emptyConfiguration.passes.toList.flatMap passForm).length = 112 := by decide +kernel
  have hg : (globalForm emptyConfiguration.globals).length = 43 := by decide +kernel
  have hc : ((List.finRange 640).flatMap fun i => cellForm i.1 (emptyConfiguration.cells.get i)).length = 2560 := by
    have h : ∀ i : CellIx, (cellForm i.1 (emptyConfiguration.cells.get i)).length = 4 := fun i => by
      rw [show emptyConfiguration.cells.get i = emptyEntry from get_replicate _ _ _]; rfl
    simp only [List.length_flatMap, h, List.map_const', List.length_finRange, List.sum_replicate_nat]
  simp only [storedEmpty, imageBytes, imageHeader, bodyForm, List.length_append, hl, hp, hg, hc]
  rfl
theorem test_stored_bytes_stand (k n : Nat) (h : k + n ≤ storedEmpty.length) :
    readBytes (writeBytes [] 0 storedEmpty) (0 + k) n = (storedEmpty.drop k).take n :=
  readBytes_writeBytes storedEmpty [] 0 k n rfl (by rw [test_shortest_image_length]; decide) h
theorem witness_StoreRunsToItsEnd :
    live.store = none ∧ (storing .erase live).store.map (fun x => x.stage) = some .erase ∧
      (storing .write live).store.map (fun x => x.stage) = some .write ∧
      (storing .verify live).store.map (fun x => x.stage) = some .verify ∧ live.flash.ident = .part := by decide
theorem witness_StoreRunsToItsEnd_verified :
    ∀ k, k < (storedEmpty.drop 4).length →
      (storedEmpty.drop 4)[k]? = some (readByte (writeBytes [] 4 (storedEmpty.drop 4)) (4 + k)) := by
  intro k h
  rw [readByte_writeBytes _ _ _ _ rfl (by rw [List.length_drop, test_shortest_image_length]; decide)]
  simp [List.getElem?_eq_getElem h]
theorem witness_StoreRunsToItsEnd_failed :
    0 < (storedEmpty.drop 4).length ∧ (storedEmpty.drop 4)[0]? ≠ some (readByte [] (4 + 0)) := by
  have h : (storedEmpty.drop 4)[0]? = some 0#8 := rfl
  refine ⟨by rw [List.length_drop, test_shortest_image_length]; decide, ?_⟩
  rw [h]
  decide
theorem witness_RecordFormsReadBack :
    lineInRange defaultLine = true ∧ cellInRange entry164 = true ∧ passInRange defaultPass = true ∧
      globalInRange defaultGlobals = true := by decide +kernel
theorem test_forms_read_back :
    readLine (lineForm defaultLine) = some defaultLine ∧ readPass (passForm defaultPass) = some defaultPass ∧
      readGlobal (globalForm defaultGlobals) = some defaultGlobals := by decide +kernel
theorem witness_InvariantsAtReset : State.reset.flash = { ident := .part, region := [] } ∧
    State.reset.pins = { resetLow := false, coreLow := false, holdSupply := true, noflash := false } := ⟨rfl, rfl⟩
theorem witness_FlashRegionStaysCanonical :
    Memory.wf State.reset.flash.region = true ∧ step State.reset = .next (elapse 1 State.reset) := ⟨rfl, rfl⟩
theorem witness_UnitsStayLegal : UnitsLegal live ∧ step live = .next (elapse 1 live) := by
  refine ⟨⟨?_, fun g => ?_, fun p => ?_, fun n => ?_, (fun e h => by cases h), (fun b h => by cases h), (fun r h => by cases h),
    ?_, fun h => absurd rfl h⟩, rfl⟩
  · unfold TimebaseLegal; decide
  · rw [show live.groups.get g = CaptureGroup.idle from get_replicate _ _ _]
    unfold GroupLegal; decide
  · rw [show live.passes.get p = PassService.online from get_replicate _ _ _]
    exact ⟨by decide, fun t h => by cases h⟩
  · rw [show live.faults = put (Vector.replicate 15 FaultRecord.empty) 11
      { firstKind := some .loadCheck, firstStamp := 0#32, firstDetail := .none, count := 1, other := false } from rfl,
      put_get]
    unfold FaultLegal
    split
    · decide
    · rw [get_replicate]; decide
  · decide
theorem witness_AlarmOutputsFollowRecords : AlarmOutputsFollow live ∧ step live = .next (elapse 1 live) := by
  have h : ∀ i, live.alarms.get i = AlarmRecord.idleRecord := fun i => get_replicate _ _ _
  have r : rankedCells live.alarms = [] := by
    unfold rankedCells alarmedCells
    rw [List.filter_eq_nil_iff.2 fun i _ => by rw [h i]; decide]
    rfl
  refine ⟨⟨by rw [r]; rfl, by rw [r]; rfl, fun p => ?_⟩, rfl⟩
  rw [show live.passAlert.get p = false from get_replicate _ _ _]
  symm
  simp only [passAlarmed, h]
  rw [List.any_eq_false]
  intro k _
  decide
/-- Cell 0 RAISED at HIGHHIGH, its retained entry in step, and its ACKNOWLEDGE in the trip port's slot, at the front. -/
def tripped : State :=
  let s := alarmed .raised .highHigh live
  asks .acknowledge .trip [0#8, 0#8, 3#8]
    { s with pending := [.acknowledge .trip]
             hold := { s.hold with contents := { s.hold.contents with
               alarms := put s.hold.contents.alarms 0 (retainedEntry (s.alarms.get 0)) } } }
theorem witness_HighHighNeedsTripPort :
    (tripped.alarms.get 0).state = .raised ∧ (tripped.alarms.get 0).severity = .highHigh ∧
      tripped.hold.contents.alarms.get 0 = retainedEntry (tripped.alarms.get 0) ∧ tripped.stage ≠ .imageLoad ∧
      TripAcknowledges 0 tripped ∧ ¬ TripAcknowledges 1 tripped ∧
      ∃ t, step tripped = .next t ∧ (t.alarms.get 0).state = .held ∧ (t.alarms.get 0).severity = .highHigh := by
  refine ⟨by decide +kernel, by decide +kernel, by decide +kernel, by decide, ⟨rfl, 7#8, 0#8, 0#8, ⟨rfl, rfl⟩, rfl⟩, ?_,
    _, rfl, by decide +kernel, by decide +kernel⟩
  rintro ⟨_, tag, hi, lo, ⟨_, h⟩, e⟩
  have k : Slot.processing { kind := 0x20#8, tag := 7#8, payload := [0#8, 0#8, 3#8] } =
    .processing { kind := kindByte .acknowledge, tag := tag, payload := [hi, lo, 3#8] } := h
  simp only [Slot.processing.injEq, Request.mk.injEq, List.cons.injEq] at k
  obtain ⟨_, _, rfl, rfl, _⟩ := k
  exact absurd e (by decide)

/-- A region that holds a header, a body and their CRC. -/
def regionOf (gen : Half) (body : List Byte) : Memory :=
  writeBytes [] 0 (imageHeader body.length gen ++ body ++ be32 (crc32 (imageHeader body.length gen ++ body)).toNat)

theorem region_slice (gen : Half) (body : List Byte) (hb : body.length ≤ 11675) (k n : Nat)
    (h : k + n ≤ body.length + 14) :
    readBytes (regionOf gen body) k n =
      ((imageHeader body.length gen ++ body ++
        be32 (crc32 (imageHeader body.length gen ++ body)).toNat).drop k).take n := by
  have hl : (imageHeader body.length gen ++ body ++
      be32 (crc32 (imageHeader body.length gen ++ body)).toNat).length = body.length + 14 := by
    simp [imageHeader, imageMarker, imageFormat, be16, be32]
  have e := readBytes_writeBytes _ [] 0 k n rfl (by rw [hl]; simp only [regionSize]; omega) (by rw [hl]; exact h)
  rw [Nat.zero_add] at e
  exact e

theorem region_byte (gen : Half) (body : List Byte) (hb : body.length ≤ 11675) (k : Nat) (b : Byte)
    (h : (imageHeader body.length gen)[k]? = some b) : readByte (regionOf gen body) k = b := by
  have hk : k < 10 := by
    by_cases l : k < 10
    · exact l
    · rw [List.getElem?_eq_none (by simp [imageHeader, imageMarker, imageFormat, be16]; omega)] at h
      cases h
  have e := region_slice gen body hb k 1 (by omega)
  have r : readBytes (regionOf gen body) k 1 = [readByte (regionOf gen body) k] := rfl
  rw [r] at e
  have hl : k < (imageHeader body.length gen).length := by simp [imageHeader, imageMarker, imageFormat, be16]; omega
  rw [List.getElem?_eq_getElem hl] at h
  simp only [Option.some.injEq] at h
  rw [List.append_assoc, List.drop_append_of_le_length (by omega), List.drop_eq_getElem_cons hl, h] at e
  simpa using e

theorem region_good (gen : Half) (body : List Byte) (h1 : 3355 ≤ body.length) (h2 : body.length ≤ 11675) :
    headerGood (regionOf gen body) = true ∧ imageLength (regionOf gen body) = body.length ∧
      imageGeneration (regionOf gen body) = gen ∧
      readBytes (regionOf gen body) 10 body.length = body := by
  have hL : imageLength (regionOf gen body) = body.length := by
    unfold imageLength
    rw [region_byte gen body h2 6 (BitVec.ofNat 8 (body.length / 256)) rfl,
      region_byte gen body h2 7 (BitVec.ofNat 8 body.length) rfl]
    simp [read16]
    omega
  have hG : imageGeneration (regionOf gen body) = gen := by
    unfold imageGeneration
    rw [region_byte gen body h2 8 (BitVec.ofNat 8 (gen.toNat / 256)) rfl,
      region_byte gen body h2 9 (BitVec.ofNat 8 gen.toNat) rfl]
    apply BitVec.eq_of_toNat_eq
    simp [read16]
    omega
  have hH : (imageHeader body.length gen).length = 10 := by simp [imageHeader, imageMarker, imageFormat, be16]
  refine ⟨?_, hL, hG, ?_⟩
  · unfold headerGood
    rw [hL, region_slice gen body h2 0 4 (by omega), region_slice gen body h2 4 2 (by omega),
      region_slice gen body h2 0 (10 + body.length) (by omega),
      region_slice gen body h2 (10 + body.length) 4 (by omega)]
    have hC : (imageHeader body.length gen ++ body).length = 10 + body.length := by rw [List.length_append, hH]
    have e1 : (imageHeader body.length gen ++ body ++
        be32 (crc32 (imageHeader body.length gen ++ body)).toNat).take (10 + body.length) =
        imageHeader body.length gen ++ body := by rw [← hC, List.take_left]
    have e2 : (imageHeader body.length gen ++ body ++
        be32 (crc32 (imageHeader body.length gen ++ body)).toNat).drop (10 + body.length) =
        be32 (crc32 (imageHeader body.length gen ++ body)).toNat := by rw [← hC, List.drop_left]
    rw [List.drop_zero, e1, e2, List.append_assoc]
    simp only [decide_eq_true_eq]
    exact ⟨rfl, rfl, h1, h2, rfl⟩
  · rw [region_slice gen body h2 10 body.length (by omega), List.append_assoc, ← hH, List.drop_left, List.take_left]

theorem readImage_invalid_of_parts (m : Memory) (n : Nat) (body : List Byte) (p : ParsedBody)
    (h1 : headerGood m = true) (h2 : imageLength m = n) (h4 : readBytes m 10 n = body)
    (hp : parseBody body = some p) (hd : decodeBody p = none) : readImage m = .invalid := by
  subst h2 h4
  simp only [readImage, h1, hp, judgeBody, hd, if_true]

/-- A body whose forms fill it, with a line record outside its ranges. -/
def badBody : List Byte :=
  List.replicate 640 2#8 ++ (List.range 640).flatMap (fun i => be16 i ++ [0#8, 0#8]) ++ List.replicate 155 0#8

theorem witness_ImageLoadOutcome_invalid : readImage (regionOf 0#16 badBody) = .invalid := by
  have hb : badBody.length = 3355 := by decide +kernel
  obtain ⟨h1, h2, _, h4⟩ := region_good 0#16 badBody (by omega) (by omega)
  have hp : (match parseBody badBody with | none => false | some b => (decodeBody b).isNone) = true := by decide +kernel
  cases hb' : parseBody badBody with
  | none => rw [hb'] at hp; cases hp
  | some b =>
    rw [hb'] at hp
    exact readImage_invalid_of_parts _ _ _ _ h1 h2 h4 hb' (Option.isNone_iff_eq_none.1 hp)

/-- The body of the empty configuration, form by form. -/
def emptyBody : List Byte :=
  (List.replicate 128 (lineForm defaultLine)).flatten ++ (List.range 640).flatMap (fun i => cellForm i emptyEntry) ++
    (List.replicate 8 (passForm defaultPass)).flatten ++ globalForm defaultGlobals

theorem replicate_as_table {α : Type} (n : Nat) (x : α) :
    toVector? n (List.replicate n x) = some (Vector.replicate n x) := by
  unfold toVector?
  rw [dif_pos List.length_replicate]
  rfl

/-- The parts of that body. -/
def emptyParsed : ParsedBody :=
  { lines := (List.replicate 128 (lineForm defaultLine)).flatten, entries := List.replicate 640 emptyEntry
    tail := (List.replicate 8 (passForm defaultPass)).flatten ++ globalForm defaultGlobals }

theorem empty_body_decodes : decodeBody emptyParsed = some emptyConfiguration := by
  have h1 : readRecords 5 readLine 128 emptyParsed.lines = some (List.replicate 128 defaultLine) := by decide +kernel
  have h2 : readRecords 14 readPass 8 emptyParsed.tail = some (List.replicate 8 defaultPass) := by decide +kernel
  have h3 : readGlobal (emptyParsed.tail.drop 112) = some defaultGlobals := by decide +kernel
  have h4 : toVector? 640 emptyParsed.entries = some (Vector.replicate 640 emptyEntry) := replicate_as_table _ _
  unfold decodeBody
  rw [h1, h2, h3, h4, Option.bind_some, Option.bind_some, replicate_as_table, replicate_as_table]
  rfl

theorem readImage_of_parts (m : Memory) (n : Nat) (body : List Byte) (p : ParsedBody) (c : Configuration) (gen : Half)
    (h1 : headerGood m = true) (h2 : imageLength m = n) (h3 : imageGeneration m = gen) (h4 : readBytes m 10 n = body)
    (hp : parseBody body = some p) (hd : decodeBody p = some c) (hc : checkConfiguration c = none) :
    readImage m = .good c gen := by
  subst h2 h4
  simp only [readImage, h1, hp, judgeBody, hd, hc, h3, if_true]

theorem witness_ImageLoadOutcome_good : readImage (regionOf 41#16 emptyBody) = .good emptyConfiguration 41#16 := by
  have hb : emptyBody.length = 3355 := by decide +kernel
  have hp : parseBody emptyBody = some emptyParsed := by decide +kernel
  obtain ⟨h1, h2, h3, h4⟩ := region_good 41#16 emptyBody (by omega) (by omega)
  exact readImage_of_parts _ _ _ _ _ _ h1 h2 h3 h4 hp empty_body_decodes empty_passes_checks

theorem forms_by_index (n : Nat) (f : Nat → List Byte) :
    (List.range n).flatMap f = (List.finRange n).flatMap fun i => f i.1 := by
  rw [show List.range n = (List.finRange n).map (fun i => i.1) from by apply List.ext_getElem <;> simp, List.flatMap_map]

theorem empty_forms_fill (lines tail : List Byte) (hl : lines.length = 640) (ht : tail.length = 155) :
    FormsFill (lines ++ (List.range 640).flatMap (fun i => cellForm i emptyEntry) ++ tail) :=
  ⟨lines, tail, fun i => cellForm i.1 emptyEntry, hl, ht,
    fun _ => ⟨[], [0#8], Nat.zero_le _, .inl rfl, rfl⟩, by rw [forms_by_index]⟩

theorem witness_ImageLoadOutcome_forms_fill : FormsFill emptyBody ∧ FormsFill badBody := by
  refine ⟨?_, empty_forms_fill _ _ (by decide +kernel) (by decide +kernel)⟩
  rw [show emptyBody = (List.replicate 128 (lineForm defaultLine)).flatten ++
    (List.range 640).flatMap (fun i => cellForm i emptyEntry) ++
      ((List.replicate 8 (passForm defaultPass)).flatten ++ globalForm defaultGlobals) from List.append_assoc _ _ _]
  exact empty_forms_fill _ _ (by decide +kernel) (by decide +kernel)

/-- A body whose first cell entry form carries another index. -/
def unfilledBody : List Byte := List.replicate 3355 2#8
theorem witness_ImageLoadOutcome_unfilled :
    headerGood (regionOf 0#16 unfilledBody) = true ∧ ¬ FormsFill unfilledBody := by
  have hl : unfilledBody.length = 3355 := List.length_replicate
  refine ⟨(region_good 0#16 unfilledBody (by omega) (by omega)).1, ?_⟩
  rintro ⟨lines, tail, form, _, _, h, e⟩
  obtain ⟨items, fallback, _, _, hf⟩ := h 0
  have h0 : 0#8 ∈ form 0 := by rw [hf]; exact List.mem_cons_self
  have h1 : 0#8 ∈ unfilledBody := by
    rw [e]
    exact List.mem_append_left _ (List.mem_append_right _ (List.mem_flatMap.2 ⟨0, List.mem_finRange _, h0⟩))
  exact absurd (List.eq_of_mem_replicate h1) (by decide)

theorem witness_ImageLoadOutcome_no_configuration (c : Configuration) (rest : List Byte) :
    badBody ≠ c.lines.toList.flatMap lineForm ++ rest := by
  intro h
  cases e : c.lines.toList with
  | nil => exact absurd (congrArg List.length e) (by simp)
  | cons r _ =>
    rw [e] at h
    have k : some 2#8 = some (flagByte r.fitted) := congrArg List.head? h
    cases hf : r.fitted <;> rw [hf] at k <;> exact absurd k (by decide)

end Sys2Proof.Tests
end

/-! PROOF. The quality of a computed cell and the readings it rests on (R70, R73, R74, R79). -/
namespace Sys2Proof.Proofs.GoodCells
open Sys2Proof Sys2Proof.Machine

/-! ### The evidence -/

/-- A contributor comes from a fresh OK reading of the item's line and carries its quality (R70). -/
theorem reading_of_contributorOf {g : GlobalRecord} {now : Word} {readings : Vector Reading 128} {item : SourceItem}
    {c : Contributor} (h : contributorOf g now readings item = some c) :
    ∃ l : LineIx, l.1 = item.line ∧ (readings.get l).status = .ok ∧ (readings.get l).quality = some c.quality ∧
      (now - (readings.get l).stamp).toNat ≤ g.staleLimit * 1000 := by
  unfold contributorOf at h
  split at h
  · cases h
  · next l hl =>
    dsimp only at h
    split at h
    · next hstatus htemp hquality =>
      split at h
      · next hage =>
        cases h
        exact ⟨l, (lineIx?_some _ _).1 hl, hstatus, hquality, hage⟩
      · cases h
    · cases h

/-- The contributors of a cell's computation (R70). -/
def contributorsOf (s : State) (i : CellIx) : List Contributor :=
  (s.active.config.cells.get i).sources.filterMap
    (contributorOf s.active.config.globals s.timebase.partTime s.readings)

theorem mem_contributorsOf {s : State} {i : CellIx} {c : Contributor} :
    c ∈ contributorsOf s i ↔ ∃ item ∈ (s.active.config.cells.get i).sources,
      contributorOf s.active.config.globals s.timebase.partTime s.readings item = some c :=
  List.mem_filterMap

/-! ### Which outcomes are GOOD (R73, R74) -/

/-- Case b.: the source is HEADS, there is a contributor, and the quality is GOOD where every contributor is GOOD and
DEGRADED elsewhere. -/
structure HeadsCase (xs : List Contributor) (o : Machine.Outcome) : Prop where
  source : o.source = .heads
  contributor : ∃ c, c ∈ xs
  quality : o.quality = .good ∧ (∀ c ∈ xs, c.quality = .good) ∨ o.quality = .degraded

/-- Every other case: another source, and a quality that is neither GOOD nor DEGRADED. -/
structure OtherCase (o : Machine.Outcome) : Prop where
  source : o.source ≠ .heads
  quality : o.quality = .uncertain ∨ o.quality = .stale ∨ o.quality = .noData ∨ o.quality = .checkFail ∨
    o.quality = .offline

theorem OtherCase.quality_ne_good {o : Machine.Outcome} (h : OtherCase o) : o.quality ≠ .good := by
  rcases h.quality with q | q | q | q | q <;> simp [q]

theorem headCase_cases (g : GlobalRecord) (xs : List Contributor) (sample : Option Int) (hx : ∃ c, c ∈ xs) :
    HeadsCase xs (headCase g xs sample) ∨ OtherCase (headCase g xs sample) := by
  unfold headCase
  split
  · exact .inr ⟨by simp [estimateOutcome], .inl rfl⟩
  · split
    · refine .inl ⟨rfl, hx, ?_⟩
      by_cases hall : ∀ c ∈ xs, c.quality = .good
      · exact .inl ⟨by simpa [estimateOutcome] using hall, hall⟩
      · exact .inr (by simpa [estimateOutcome] using hall)
    · exact .inr ⟨by simp [estimateOutcome], .inl rfl⟩

theorem absentOutcome_other {q : Quality} (present : Bool) (last : Option Int) (w : Working)
    (hq : q = .noData ∨ q = .checkFail ∨ q = .offline) : OtherCase (absentOutcome q present last w) :=
  ⟨by simp [absentOutcome], .inr (.inr hq)⟩

theorem fallbackCase_other (g : GlobalRecord) (neighbour : Option Int) (w : Working) :
    OtherCase (fallbackCase g neighbour w) := by
  unfold fallbackCase
  split
  · exact ⟨by simp [estimateOutcome], .inl rfl⟩
  · split
    · split
      · exact ⟨by simp, .inr (.inl rfl)⟩
      · exact absentOutcome_other _ _ _ (.inl rfl)
    · exact absentOutcome_other _ _ _ (.inl rfl)

theorem caseTable_cases (g : GlobalRecord) (xs : List Contributor) (sample neighbour : Option Int) (w : Working) :
    HeadsCase xs (caseTable g xs sample neighbour w) ∨ OtherCase (caseTable g xs sample neighbour w) := by
  cases xs with
  | nil =>
    cases sample with
    | none => exact .inr (fallbackCase_other g neighbour w)
    | some t => exact .inr ⟨by simp [caseTable, estimateOutcome], .inl rfl⟩
  | cons x rest => exact headCase_cases g (x :: rest) sample ⟨x, List.mem_cons_self⟩

/-- A cell's computation takes case b. on the cell's contributors, or gives neither GOOD nor DEGRADED. -/
theorem cellOutcome_cases (s : State) (i : CellIx) :
    HeadsCase (contributorsOf s i) (cellOutcome s i) ∨ OtherCase (cellOutcome s i) := by
  unfold cellOutcome
  dsimp only
  split
  · exact .inr (absentOutcome_other _ _ _ (.inr (.inr rfl)))
  · split
    · exact .inr (absentOutcome_other _ _ _ (.inr (.inl rfl)))
    · exact caseTable_cases _ _ _ _ _

theorem headsCase_of_good {s : State} {i : CellIx} (h : (cellOutcome s i).quality = .good) :
    HeadsCase (contributorsOf s i) (cellOutcome s i) :=
  (cellOutcome_cases s i).resolve_right fun other => other.quality_ne_good h

theorem headsCase_of_heads {s : State} {i : CellIx} (h : (cellOutcome s i).source = .heads) :
    HeadsCase (contributorsOf s i) (cellOutcome s i) :=
  (cellOutcome_cases s i).resolve_right fun other => other.source h

theorem otherCase_of_ne_heads {s : State} {i : CellIx} (h : (cellOutcome s i).source ≠ .heads) :
    OtherCase (cellOutcome s i) :=
  (cellOutcome_cases s i).resolve_left fun heads => h heads.source

/-- A GOOD outcome has a contributor, and all its contributors are GOOD (R74). -/
theorem contributors_of_good {s : State} {i : CellIx} (h : (cellOutcome s i).quality = .good) :
    (∃ c, c ∈ contributorsOf s i) ∧ ∀ c ∈ contributorsOf s i, c.quality = .good := by
  obtain ⟨_, hsome, hquality⟩ := headsCase_of_good h
  obtain ⟨_, hall⟩ | hdegraded := hquality
  · exact ⟨hsome, hall⟩
  · simp [h] at hdegraded

/-- A GOOD outcome rests on a fresh OK reading of quality GOOD. -/
theorem good_reading_of_good {s : State} {i : CellIx} (h : (cellOutcome s i).quality = .good) :
    ∃ item ∈ (s.active.config.cells.get i).sources, ∃ l : LineIx, l.1 = item.line ∧
      (s.readings.get l).status = .ok ∧ (s.readings.get l).quality = some .good ∧
      (s.timebase.partTime - (s.readings.get l).stamp).toNat ≤ s.active.config.globals.staleLimit * 1000 := by
  obtain ⟨⟨c, hc⟩, hall⟩ := contributors_of_good h
  obtain ⟨item, hitem, hgives⟩ := mem_contributorsOf.1 hc
  obtain ⟨l, hline, hstatus, hquality, hage⟩ := reading_of_contributorOf hgives
  exact ⟨item, hitem, l, hline, hstatus, by rw [hquality, hall c hc], hage⟩

/-! ### Where the computed record stands (R64, R65, R79) -/

@[simp] theorem computedRecord_quality (k : Word) (i : CellIx) (s : State) :
    (computedRecord k i s).quality = (cellOutcome s i).quality := rfl

@[simp] theorem computedRecord_source (k : Word) (i : CellIx) (s : State) :
    (computedRecord k i s).source = (cellOutcome s i).source := rfl

@[simp] theorem changeAlarm_published (i : CellIx) (a : AlarmRecord) (s : State) :
    (changeAlarm i a s).published = s.published := by
  unfold changeAlarm
  split <;> rfl

@[simp] theorem reportMismatch_published (found : Bool) (i : CellIx) (s : State) :
    (reportMismatch found i s).published = s.published := by
  cases found <;> simp [reportMismatch]

@[simp] theorem computeCell_published (k : Word) (i : CellIx) (s : State) :
    (computeCell k i s).published = s.published := by
  simp [computeCell, takeHandOff]

/-- The sweep keeps the new working copy, or publishes it as the records of the pass. -/
theorem advanceSweep_carries (number : Word) (i : CellIx) (rest : List CellIx) (copy : Vector CellRecord 80)
    (s : State) :
    ((advanceSweep number i rest copy s).published = s.published ∧
        ∃ r, (advanceSweep number i rest copy s).sweep = some r ∧ r.working = copy) ∨
      ∃ x, (advanceSweep number i rest copy s).published.get (passOf i) = some x ∧ x.records = copy := by
  cases rest with
  | nil => exact .inr ⟨_, put_get_self _ _ _, rfl⟩
  | cons j rest =>
    unfold advanceSweep
    dsimp only
    split
    · exact .inl ⟨rfl, _, rfl, rfl⟩
    · exact .inr ⟨_, put_get_self _ _ _, rfl⟩

theorem exec_cellComputation_of_todo {s : State} {run : SweepRun} {i : CellIx} {rest : List CellIx}
    (hrun : s.sweep = some run) (htodo : run.todo = i :: rest) :
    exec .cellComputation s =
      .next (advanceSweep run.number i rest (put run.working (placeOf i) (computedRecord run.number i s))
        (computeCell run.number i s)) := by
  change Host.Outcome.next (cellComputationEvent s) = _
  simp only [cellComputationEvent, hrun, htodo]

/-- Settles O48: the outcome is case b. on the cell's contributors or another case (`cellOutcome_cases`), and the next
state carries its record in the working copy or the publication (`advanceSweep_carries`). -/
theorem goodCellsRestOnGoodReadings : Obligations.GoodCellsRestOnGoodReadings := by
  intro s run i rest hrun htodo
  refine ⟨_, put run.working (placeOf i) (computedRecord run.number i s), exec_cellComputation_of_todo hrun htodo,
    ?carried, fun k hk => put_get_ne _ _ _ _ hk.symm, ?good, ?heads, ?other⟩
  case carried => simpa using advanceSweep_carries run.number i rest _ (computeCell run.number i s)
  all_goals rw [put_get_self, computedRecord_source, computedRecord_quality]
  case good =>
    intro hgood
    refine ⟨good_reading_of_good hgood, fun item hitem c hc => ?_, (headsCase_of_good hgood).source⟩
    exact (contributors_of_good hgood).2 c (mem_contributorsOf.2 ⟨item, hitem, hc⟩)
  case heads =>
    intro hheads
    obtain ⟨_, ⟨c, hc⟩, hquality⟩ := headsCase_of_heads hheads
    obtain ⟨item, hitem, hgives⟩ := mem_contributorsOf.1 hc
    exact ⟨hquality.imp_left And.left, item, hitem, c, hgives⟩
  case other => exact fun hother => (otherCase_of_ne_heads hother).quality

end Sys2Proof.Proofs.GoodCells

/-! PROOF. The opening and the dropping of a scan batch (R91, R95). -/
namespace Sys2Proof.Proofs.ScanBatches
open Sys2Proof Sys2Proof.Machine

/-! ### Requests of a fixed payload length (R155, R163) -/

theorem admission_of_length_eq {k : RequestKind} {p : Port} {n : Nat} (hport : admitted k p = true)
    (hfixed : fixedLength k = some n) : admission k p n = none := by
  simp [admission, hport, hfixed]

theorem admission_of_length_ne {k : RequestKind} {p : Port} {n length : Nat} (hport : admitted k p = true)
    (hfixed : fixedLength k = some n) (hne : length ≠ n) : admission k p length = some .range := by
  simp [admission, hport, hfixed, hne]

/-- From an admitted port and with the catalogue's length, a request is its owner's to answer. -/
theorem exec_of_length_eq {k : RequestKind} {p : Port} {tag : Byte} {payload : List Byte} {s : State}
    (hasks : Asks k p tag payload s) (hport : admitted k p = true) (hfixed : fixedLength k = some payload.length) :
    exec (requestCommand k p) s =
      .next (answered k p tag payload (ownerOf k p payload s).2 (ownerOf k p payload s).1) := by
  rw [exec_request, serve_owned k (ownerOf k) p tag payload s hasks (admission_of_length_eq hport hfixed)]

/-- From an admitted port and with another length, a request is answered RANGE and nothing else changes. -/
theorem exec_of_length_ne {k : RequestKind} {p : Port} {n : Nat} {tag : Byte} {payload : List Byte} {s : State}
    (hasks : Asks k p tag payload s) (hport : admitted k p = true) (hfixed : fixedLength k = some n)
    (hne : payload.length ≠ n) :
    exec (requestCommand k p) s = .next (answered k p tag payload (codeOnly .range) s) := by
  rw [exec_request, serve_refused k (ownerOf k) p tag payload s .range hasks (admission_of_length_ne hport hfixed hne)]

/-! ### SCAN_OPEN (R91) -/

theorem ownScanOpen_of_none {s : State} (p : Port) (payload : List Byte) (hbatch : s.batch = none) :
    ownScanOpen p payload s =
      ({ s with batch := some { owner := p, buffer := [], lastActivity := s.timebase.partTime,
                                rejectionLogged := false } }, codeOnly .ok) := by
  simp only [ownScanOpen, hbatch]

theorem ownScanOpen_of_some {s : State} {b : Batch} (p : Port) (payload : List Byte) (hbatch : s.batch = some b) :
    ownScanOpen p payload s = (s, codeOnly .batchOpen) := by
  simp only [ownScanOpen, hbatch]

theorem exec_scanOpen_empty {tag : Byte} {s : State} (hasks : Asks .scanOpen .service tag [] s) :
    exec (.scanOpen .service) s = .next (answered .scanOpen .service tag []
      (ownScanOpen .service [] s).2 (ownScanOpen .service [] s).1) :=
  exec_of_length_eq hasks rfl rfl

/-- Settles O28: the catalogue refuses a payload, and `ownScanOpen` decides on the batch. -/
theorem scanOpenOpensBatch : Obligations.ScanOpenOpensBatch := by
  intro tag payload s hasks
  refine ⟨fun hne => ?payload, fun hempty hbatch => ?opens, fun b hempty hbatch => ?batchOpen⟩
  case payload => exact exec_of_length_ne hasks rfl rfl (mt List.eq_nil_of_length_eq_zero hne)
  all_goals subst hempty; rw [exec_scanOpen_empty hasks]
  case opens => rw [ownScanOpen_of_none _ _ hbatch]; rfl
  case batchOpen => rw [ownScanOpen_of_some _ _ hbatch]; rfl

/-! ### SCAN_DROP (R95) -/

theorem ownScanDrop_of_none {s : State} (p : Port) (payload : List Byte) (hbatch : s.batch = none) :
    ownScanDrop p payload s = (s, codeOnly .noBatch) := by
  simp only [ownScanDrop, hbatch]

theorem ownScanDrop_of_some {s : State} {b : Batch} (p : Port) (payload : List Byte) (hbatch : s.batch = some b) :
    ownScanDrop p payload s = ({ s with batch := none }, okWith (be16 b.buffer.length)) := by
  simp only [ownScanDrop, hbatch]

theorem exec_scanDrop_empty {tag : Byte} {s : State} (hasks : Asks .scanDrop .service tag [] s) :
    exec (.scanDrop .service) s = .next (answered .scanDrop .service tag []
      (ownScanDrop .service [] s).2 (ownScanDrop .service [] s).1) :=
  exec_of_length_eq hasks rfl rfl

/-- Settles O29: the catalogue refuses a payload, and `ownScanDrop` ends the batch that is open. -/
theorem scanDropDiscardsBatch : Obligations.ScanDropDiscardsBatch := by
  intro tag payload s hasks
  refine ⟨fun hne => ?payload, fun hempty hbatch => ?noBatch, fun b hempty hbatch => ?drops⟩
  case payload => exact exec_of_length_ne hasks rfl rfl (mt List.eq_nil_of_length_eq_zero hne)
  all_goals subst hempty; rw [exec_scanDrop_empty hasks]
  case noBatch => rw [ownScanDrop_of_none _ _ hbatch]; rfl
  case drops => rw [ownScanDrop_of_some _ _ hbatch]; rfl

end Sys2Proof.Proofs.ScanBatches

/-! PROOF. The taking of a fault at the record of its source, and the order of two faults (R165, R166, R167). -/
namespace Sys2Proof.Proofs.FaultBank
open Sys2Proof Sys2Proof.Machine

theorem put_comm {α : Type} {n : Nat} (v : Vector α n) {i j : Fin n} (x y : α) (h : i ≠ j) :
    put (put v i x) j y = put (put v j y) i x :=
  Vector.set_comm x y (Fin.val_ne_of_ne h)

/-! ### The numbers of the sources (R165) -/

/-- The source of each number, from which `sourceIx` is seen to give no two sources one record. -/
def sourceOfIx (n : Fin 15) : FaultSource :=
  match n.1 with
  | 8 => .timebase
  | 9 => .sweep
  | 10 => .scan
  | 11 => .store
  | 12 => .port .control
  | 13 => .port .trip
  | 14 => .port .service
  | k => .group (Fin.ofNat 8 k)

theorem sourceOfIx_group : ∀ g : GroupIx, sourceOfIx (sourceIx (.group g)) = .group g := by decide

theorem sourceOfIx_sourceIx : Function.LeftInverse sourceOfIx sourceIx
  | .group g => sourceOfIx_group g
  | .timebase | .sweep | .scan | .store => rfl
  | .port .control | .port .trip | .port .service => rfl

theorem sourceIx_injective : Function.Injective sourceIx := sourceOfIx_sourceIx.injective

/-! ### One record (R166) -/

theorem takeFault_of_empty {r : FaultRecord} (kind : FaultKind) (stamp : Word) (detail : Detail) (h : r.count = 0) :
    takeFault kind stamp detail r =
      { firstKind := some kind, firstStamp := stamp, firstDetail := detail, count := 1, other := false } :=
  if_pos h

theorem takeFault_of_filled {r : FaultRecord} (kind : FaultKind) (stamp : Word) (detail : Detail) (h : 1 ≤ r.count)
    (hmax : r.count ≤ 255) :
    takeFault kind stamp detail r =
      { r with count := min (r.count + 1) 255, other := r.other || decide (r.firstKind ≠ some kind) } := by
  have hcount : (if r.count < 255 then r.count + 1 else 255) = min (r.count + 1) 255 := by split <;> omega
  rw [takeFault, if_neg (Nat.ne_of_gt h), hcount]

/-- The second of two faults counts, and keeps no more than whether its kind differs. -/
theorem takeFault_twice_of_empty {r : FaultRecord} (k1 k2 : FaultKind) (t1 t2 : Word) (d1 d2 : Detail)
    (h : r.count = 0) :
    takeFault k2 t2 d2 (takeFault k1 t1 d1 r) =
      { firstKind := some k1, firstStamp := t1, firstDetail := d1, count := 2, other := decide (k1 ≠ k2) } := by
  rw [takeFault_of_empty k1 t1 d1 h, takeFault_of_filled k2 t2 d2 (Nat.le_refl 1) (by decide : 1 ≤ 255)]
  simp

/-! ### The bank (R166, R167) -/

/-- A fault touches the record of its source, and the ports where it is new outside a restart sequence. -/
theorem handFault_eq (src : FaultSource) (kind : FaultKind) (detail : Detail) (s : State) :
    handFault src kind detail s =
      { s with
        faults := put s.faults (sourceIx src)
          (takeFault kind s.timebase.partTime detail (s.faults.get (sourceIx src)))
        ports := if (s.faults.get (sourceIx src)).count = 0 ∧ s.stage = .running then
            s.ports.map fun u => { u with notices := { u.notices with faultNew := true } }
          else s.ports } := by
  simp only [handFault, State.running, decide_eq_true_eq]
  split <;> rfl

theorem handFault_of_empty {src : FaultSource} {s : State} (kind : FaultKind) (detail : Detail)
    (h : (s.faults.get (sourceIx src)).count = 0) :
    handFault src kind detail s =
      { s with
        faults := put s.faults (sourceIx src)
          { firstKind := some kind, firstStamp := s.timebase.partTime, firstDetail := detail, count := 1,
            other := false }
        ports := if s.stage = .running then
            s.ports.map fun u => { u with notices := { u.notices with faultNew := true } }
          else s.ports } := by
  simp only [handFault_eq, takeFault_of_empty _ _ _ h, h, true_and]

theorem handFault_of_filled {src : FaultSource} {s : State} {r : FaultRecord} (kind : FaultKind) (detail : Detail)
    (hr : r = s.faults.get (sourceIx src)) (h : 1 ≤ r.count) (hmax : r.count ≤ 255) :
    handFault src kind detail s =
      { s with faults := put s.faults (sourceIx src)
                 { r with count := min (r.count + 1) 255, other := r.other || decide (r.firstKind ≠ some kind) } } := by
  have hne : ¬(r.count = 0 ∧ s.stage = .running) := fun hnew => Nat.ne_of_gt h hnew.1
  rw [handFault_eq, ← hr, takeFault_of_filled _ _ _ h hmax, if_neg hne]

/-- What the record of the source becomes, whatever the other records and the notices do. -/
theorem handFault_record (src : FaultSource) (kind : FaultKind) (detail : Detail) (s : State) :
    (handFault src kind detail s).faults.get (sourceIx src) =
      takeFault kind s.timebase.partTime detail (s.faults.get (sourceIx src)) := by
  rw [handFault_faults, put_get_self]

theorem handFault_twice_record {src : FaultSource} {s : State} (k1 k2 : FaultKind) (d1 d2 : Detail)
    (h : (s.faults.get (sourceIx src)).count = 0) :
    (handFault src k2 d2 (handFault src k1 d1 s)).faults.get (sourceIx src) =
      { firstKind := some k1, firstStamp := s.timebase.partTime, firstDetail := d1, count := 2,
        other := decide (k1 ≠ k2) } := by
  rw [handFault_record, handFault_record, takeFault_twice_of_empty _ _ _ _ _ _ h]

/-- Faults of different sources commute: their records differ, so neither changes whether the other is new. -/
theorem handFault_comm {src src' : FaultSource} (k k' : FaultKind) (d d' : Detail) (s : State) (h : src ≠ src') :
    handFault src k d (handFault src' k' d' s) = handFault src' k' d' (handFault src k d s) := by
  have hix : sourceIx src ≠ sourceIx src' := sourceIx_injective.ne h
  simp only [handFault_eq, put_get_ne _ _ _ _ hix, put_get_ne _ _ _ _ hix.symm, put_comm _ _ _ hix]
  split <;> split <;> rfl

/-- Settles O15: one fault by the record it finds (`handFault_of_empty`, `handFault_of_filled`), two at one source
(`handFault_twice_record`), two at different sources (`handFault_comm`). -/
theorem faultBankTakesFault : Obligations.FaultBankTakesFault := by
  refine ⟨fun src kind detail s r hr => ⟨fun hempty => ?empty, ?filled⟩, fun src k1 k2 d1 d2 s hempty => ?oneSource,
    fun src src' k k' d d' s hne => ?twoSources⟩
  case empty => exact handFault_of_empty kind detail (hr ▸ hempty)
  case filled => exact handFault_of_filled kind detail hr
  case oneSource => simp only [handFault_twice_record k1 k2 d1 d2 hempty, and_self]
  case twoSources => exact handFault_comm k k' d d' s hne

end Sys2Proof.Proofs.FaultBank

/-! PROOF. What the commands leave of the queue, the restart controller, the alarm unit and the flash. -/
namespace Sys2Proof.Proofs.Frames
open Sys2Proof Sys2Proof.Machine

/-- The queue, the stage and cause of a sequence, the input levels, the alarm unit, its retained table and the flash. -/
structure Core where
  pending : List Instr
  stage : RestartStage
  cause : RestartCause
  resetLow : Bool
  coreLow : Bool
  alarms : Vector AlarmRecord 640
  hotList : List CellIx
  unlisted : Nat
  passAlert : Vector Bool 8
  retained : Vector (Option RetainedAlarm) 640
  flash : Flash

/-- The core of a state: what all but a few commands leave as it is. -/
def coreOf (s : State) : Core :=
  { pending := s.pending, stage := s.stage, cause := s.cause, resetLow := s.pins.resetLow,
    coreLow := s.pins.coreLow, alarms := s.alarms, hotList := s.hotList, unlisted := s.unlisted, passAlert := s.passAlert,
    retained := s.hold.contents.alarms, flash := s.flash }

/-! ### The shared operations -/

@[simp] theorem coreOf_setPort (s : State) (p : Port) (u : PortUnit) : coreOf (s.setPort p u) = coreOf s := rfl
@[simp] theorem coreOf_setGroup (s : State) (g : GroupIx) (x : CaptureGroup) : coreOf (s.setGroup g x) = coreOf s := rfl
@[simp] theorem coreOf_setEdit (s : State) (e : Option EditClaim) : coreOf (s.setEdit e) = coreOf s := rfl
@[simp] theorem coreOf_notify (p : Port) (n : Notice) (s : State) : coreOf (notify p n s) = coreOf s := rfl
@[simp] theorem coreOf_notifyAll (n : Notice) (s : State) : coreOf (notifyAll n s) = coreOf s := rfl
@[simp] theorem coreOf_driveOut (p : Port) (bytes : List Byte) (s : State) : coreOf (driveOut p bytes s) = coreOf s := rfl
@[simp] theorem coreOf_answerSlot (p : Port) (req : Request) (r : Reply) (s : State) :
    coreOf (answerSlot p req r s) = coreOf s := rfl

@[simp] theorem coreOf_handFault (src : FaultSource) (kind : FaultKind) (detail : Detail) (s : State) :
    coreOf (handFault src kind detail s) = coreOf s := by
  simp [coreOf]

@[simp] theorem coreOf_elapse (ms : Nat) (s : State) : coreOf (elapse ms s) = coreOf s := by
  simp [coreOf]

/-- A write to the hold domain that leaves its alarm table. -/
theorem coreOf_retain (f : HoldContents → HoldContents) (s : State)
    (h : (f s.hold.contents).alarms = s.hold.contents.alarms) : coreOf (retain f s) = coreOf s := by
  simp [coreOf, sealHold, h]

/-! ### The timebase unit -/

@[simp] theorem coreOf_changeTimebase (t : Timebase) (s : State) : coreOf (changeTimebase t s) = coreOf s := rfl
@[simp] theorem coreOf_changeBreakSeen (b : Bool) (s : State) : coreOf (changeBreakSeen b s) = coreOf s := rfl
@[simp] theorem coreOf_startAcquisition (s : State) : coreOf (startAcquisition s) = coreOf s := rfl
@[simp] theorem coreOf_goBypass (s : State) : coreOf (goBypass s) = coreOf s := rfl
@[simp] theorem coreOf_crystalFailure (s : State) : coreOf (crystalFailure s) = coreOf s := by simp [crystalFailure]

@[simp] theorem coreOf_crystalGapEvent (s : State) : coreOf (crystalGapEvent s) = coreOf s := by
  unfold crystalGapEvent
  split
  · split
    · rfl
    all_goals exact coreOf_crystalFailure s
  · rfl

@[simp] theorem coreOf_crystalEdgeEvent (s : State) : coreOf (crystalEdgeEvent s) = coreOf s := by
  unfold crystalEdgeEvent
  split
  · split <;> rfl
  · rfl

@[simp] theorem coreOf_crystalRestoreEvent (s : State) : coreOf (crystalRestoreEvent s) = coreOf s := by
  unfold crystalRestoreEvent
  split
  · split <;> simp
  · rfl

@[simp] theorem coreOf_lockReportEvent (s : State) : coreOf (lockReportEvent s) = coreOf s := by
  unfold lockReportEvent
  split
  · split
    · rfl
    · rfl
    · rfl
    · split <;> rfl
  · rfl

@[simp] theorem coreOf_lossOfLockEvent (s : State) : coreOf (lossOfLockEvent s) = coreOf s := by
  unfold lossOfLockEvent
  split
  · split
    · rfl
    · rfl
    · rfl
    · split
      · rfl
      · split <;> simp
  · rfl

@[simp] theorem coreOf_lockTimeoutEvent (s : State) : coreOf (lockTimeoutEvent s) = coreOf s := by
  unfold lockTimeoutEvent
  split <;> simp

@[simp] theorem coreOf_retryExpiryEvent (s : State) : coreOf (retryExpiryEvent s) = coreOf s := by
  unfold retryExpiryEvent
  split <;> rfl

@[simp] theorem coreOf_takeUpEnable (before after : Bool) (s : State) :
    coreOf (takeUpEnable before after s) = coreOf s := by
  unfold takeUpEnable
  split
  · rfl
  · split <;> split <;> rfl

/-! ### The capture groups -/

@[simp] theorem coreOf_storeSkin (g : GroupIx) (l : LineIx) (r : Reading) (s : State) :
    coreOf (storeSkin g l r s) = coreOf s := by
  unfold storeSkin
  dsimp only
  split
  · rw [coreOf_handFault]; rfl
  · rfl

@[simp] theorem coreOf_storeReference (g : GroupIx) (r : Reading) (s : State) :
    coreOf (storeReference g r s) = coreOf s := by
  unfold storeReference
  dsimp only
  split
  · rw [coreOf_handFault]; rfl
  · rfl

@[simp] theorem coreOf_storeResult (g : GroupIx) (m : Measurement) (x : Gathered) (s : State) :
    coreOf (storeResult g m x s) = coreOf s := by
  unfold storeResult
  split <;> simp

@[simp] theorem coreOf_updateGroup (f : Configuration → GroupIx → CaptureGroup → CaptureGroup) (g : GroupIx)
    (s : State) : coreOf (updateGroup f g s) = coreOf s := rfl

@[simp] theorem coreOf_post (g : GroupIx) (m : Measurement) (epoch : Half) (x : Gathered) (s : State) :
    coreOf (post g m epoch x s) = coreOf s := by
  unfold post
  split
  · unfold postApplied
    split <;> simp
  · unfold postPlain
    split
    · simp
    · split <;> simp

@[simp] theorem coreOf_toStage (g : GroupIx) (m : Measurement) (stage : MeasureStage) (s : State) :
    coreOf (toStage g m stage s) = coreOf s := rfl

@[simp] theorem coreOf_settleEndEvent (g : GroupIx) (s : State) : coreOf (settleEndEvent g s) = coreOf s := by
  unfold settleEndEvent
  split
  · rfl
  · split <;> rfl

@[simp] theorem coreOf_armEdgeEvent (g : GroupIx) (s : State) : coreOf (armEdgeEvent g s) = coreOf s := by
  unfold armEdgeEvent
  split
  · rfl
  · split <;> rfl

@[simp] theorem coreOf_armTimeoutEvent (g : GroupIx) (s : State) : coreOf (armTimeoutEvent g s) = coreOf s := by
  unfold armTimeoutEvent
  split
  · rfl
  · split <;> simp

@[simp] theorem coreOf_cycleCloseEvent (g : GroupIx) (n : Nat) (s : State) :
    coreOf (cycleCloseEvent g n s) = coreOf s := by
  unfold cycleCloseEvent
  split
  · rfl
  · split
    · split <;> rfl
    all_goals rfl

@[simp] theorem coreOf_countEndEvent (g : GroupIx) (n : Nat) (s : State) :
    coreOf (countEndEvent g n s) = coreOf s := by
  unfold countEndEvent
  split
  · rfl
  · split
    · split <;> rfl
    all_goals rfl

@[simp] theorem coreOf_countTimeoutEvent (g : GroupIx) (s : State) : coreOf (countTimeoutEvent g s) = coreOf s := by
  unfold countTimeoutEvent
  split
  · rfl
  · split
    · split <;> simp
    all_goals rfl

@[simp] theorem coreOf_fallingEdgeEvent (g : GroupIx) (n : Nat) (s : State) :
    coreOf (fallingEdgeEvent g n s) = coreOf s := by
  unfold fallingEdgeEvent
  split
  · rfl
  · split
    · split <;> rfl
    all_goals rfl

@[simp] theorem coreOf_widthEndEvent (g : GroupIx) (s : State) : coreOf (widthEndEvent g s) = coreOf s := by
  unfold widthEndEvent
  split
  · rfl
  · split
    · split <;> simp
    all_goals rfl

@[simp] theorem coreOf_widthTimeoutEvent (g : GroupIx) (s : State) : coreOf (widthTimeoutEvent g s) = coreOf s := by
  unfold widthTimeoutEvent
  split
  · rfl
  · split
    · split <;> simp
    all_goals rfl

@[simp] theorem coreOf_readingRetireEvent (l : LineIx) (s : State) : coreOf (readingRetireEvent l s) = coreOf s := by
  unfold readingRetireEvent
  split <;> rfl

/-! ### The scan unit, the claim and the pass states -/

@[simp] theorem coreOf_batchExpiryEvent (s : State) : coreOf (batchExpiryEvent s) = coreOf s := by
  unfold batchExpiryEvent
  split
  · rfl
  · split
    · rw [coreOf_notify, coreOf_handFault]; rfl
    · rfl

@[simp] theorem coreOf_scanEntryRetireEvent (i : CellIx) (s : State) :
    coreOf (scanEntryRetireEvent i s) = coreOf s := by
  unfold scanEntryRetireEvent
  split
  · rfl
  · split <;> rfl

@[simp] theorem coreOf_claimExpiryEvent (s : State) : coreOf (claimExpiryEvent s) = coreOf s := by
  unfold claimExpiryEvent
  split
  · rfl
  · split
    · rfl
    · split <;> rfl

@[simp] theorem coreOf_setPass (p : PassIx) (x : PassService) (s : State) : coreOf (setPass p x s) = coreOf s := by
  unfold setPass
  dsimp only
  split <;> rfl

theorem coreOf_withWorking (s : State) (w : Vector Working 640) : coreOf { s with working := w } = coreOf s := rfl

@[simp] theorem coreOf_mapPassWorking (f : Working → Working) (p : PassIx) (s : State) :
    coreOf (mapPassWorking f p s) = coreOf s := coreOf_withWorking s _

@[simp] theorem coreOf_settlePass (s : State) (p : PassIx) : coreOf (settlePass s p) = coreOf s := by
  unfold settlePass
  dsimp only
  split
  · split
    · rfl
    · split <;> simp
  · simp

/-- What each of a list of operations leaves, all of them leave. -/
theorem coreOf_foldl {α : Type} (f : State → α → State) (h : ∀ s a, coreOf (f s a) = coreOf s) (l : List α)
    (s : State) : coreOf (l.foldl f s) = coreOf s := by
  induction l generalizing s with
  | nil => rfl
  | cons a l ih => exact (ih (f s a)).trans (h s a)

@[simp] theorem coreOf_settleAll (s : State) : coreOf (settleAll s) = coreOf s := by
  unfold settleAll
  exact coreOf_foldl settlePass coreOf_settlePass _ s

/-- The comparison of R130 finds the spall overdue reached and not yet told. -/
def overdueNow (c : Configuration) (x : PassService) : Bool :=
  x.spallTimer.any (fun t => decide (overdueMs c ≤ t)) && decide (x.state = .spall ∧ x.overdueNotified = false)

theorem compareOverdue_eq (s : State) (p : PassIx) :
    compareOverdue s p =
      if overdueNow s.active.config (s.passes.get p) then
        notify .control .spallOverdue
          { s with passes := put s.passes p { s.passes.get p with overdueNotified := true } }
      else s := by
  unfold compareOverdue overdueNow
  generalize s.passes.get p = x
  generalize overdueMs s.active.config = due
  obtain ⟨state, target, timer, told⟩ := x
  cases timer with
  | none => simp
  | some t => simp [and_left_comm]

@[simp] theorem coreOf_compareOverdue (s : State) (p : PassIx) : coreOf (compareOverdue s p) = coreOf s := by
  rw [compareOverdue_eq]
  split
  · rw [coreOf_notify]; rfl
  · rfl

@[simp] theorem coreOf_spallOverdueEvent (p : PassIx) (s : State) : coreOf (spallOverdueEvent p s) = coreOf s := by
  unfold spallOverdueEvent
  split <;> simp

@[simp] theorem coreOf_takeUpOverdue (before after : Configuration) (s : State) :
    coreOf (takeUpOverdue before after s) = coreOf s := by
  unfold takeUpOverdue
  split
  · rfl
  · exact coreOf_foldl compareOverdue coreOf_compareOverdue _ s

/-! ### The sweep -/

@[simp] theorem coreOf_clearVanished (before after : Configuration) (s : State) :
    coreOf (clearVanished before after s) = coreOf s := rfl
@[simp] theorem coreOf_takeUpMap (before after : Configuration) (s : State) :
    coreOf (takeUpMap before after s) = coreOf s := rfl
@[simp] theorem coreOf_takeUpGroups (after : Configuration) (s : State) :
    coreOf (takeUpGroups after s) = coreOf s := rfl
@[simp] theorem coreOf_makeActive (staged : Configuration) (s : State) : coreOf (makeActive staged s) = coreOf s := rfl
@[simp] theorem coreOf_applyCommit (staged : Configuration) (s : State) :
    coreOf (applyCommit staged s) = coreOf s := by
  simp [applyCommit]

@[simp] theorem coreOf_considerCommit (s : State) : coreOf (considerCommit s) = coreOf s := by
  unfold considerCommit
  split
  · rfl
  · split
    · rfl
    · split
      · rfl
      · exact coreOf_applyCommit _ s

@[simp] theorem coreOf_nextInterval (s : State) : coreOf (nextInterval s) = coreOf s := rfl

@[simp] theorem coreOf_beginProcessing (s : State) : coreOf (beginProcessing s) = coreOf s := by
  unfold beginProcessing
  split <;> rfl

@[simp] theorem coreOf_sweepBoundaryEvent (s : State) : coreOf (sweepBoundaryEvent s) = coreOf s := by
  unfold sweepBoundaryEvent
  split
  · split <;> simp [sweepStart]
  · rfl

@[simp] theorem coreOf_advanceSweep (number : Word) (i : CellIx) (rest : List CellIx) (copy : Vector CellRecord 80)
    (s : State) : coreOf (advanceSweep number i rest copy s) = coreOf s := by
  unfold advanceSweep
  split
  · rfl
  · split <;> rfl

@[simp] theorem coreOf_reportMismatch (found : Bool) (i : CellIx) (s : State) :
    coreOf (reportMismatch found i s) = coreOf s := by
  unfold reportMismatch
  split <;> simp

/-! ### Transactions -/

@[simp] theorem coreOf_takeTransaction (p : Port) (bytes : List Byte) (trailing : Bool) (s : State) :
    coreOf (takeTransaction p bytes trailing s) = coreOf s := by
  unfold takeTransaction
  dsimp only
  split
  · unfold goodFrame
    split <;> simp
  · simp [badFrame]

/-! ### Requests -/

@[simp] theorem coreOf_answered (k : RequestKind) (p : Port) (tag : Byte) (payload : List Byte) (r : Reply)
    (s : State) : coreOf (answered k p tag payload r s) = coreOf s := rfl

/-- A request command finds no request of its kind, or refuses it by the catalogue, or its owner answers it. -/
theorem serve_cases (k : RequestKind) (owner : Owner) (p : Port) (s : State) :
    serve k owner p s = s ∨
      (∃ tag payload code, Asks k p tag payload s ∧
        serve k owner p s = answered k p tag payload (codeOnly code) s) ∨
      ∃ tag payload, Asks k p tag payload s ∧ admission k p payload.length = none ∧
        serve k owner p s = answered k p tag payload (owner p payload s).2 (owner p payload s).1 := by
  by_cases hasks : ∃ tag payload, Asks k p tag payload s
  · obtain ⟨tag, payload, hasks⟩ := hasks
    cases hadm : admission k p payload.length with
    | some code => exact .inr (.inl ⟨tag, payload, code, hasks, serve_refused k owner p tag payload s code hasks hadm⟩)
    | none => exact .inr (.inr ⟨tag, payload, hasks, hadm, serve_owned k owner p tag payload s hasks hadm⟩)
  · exact .inl (serve_idle k owner p s fun tag payload h => hasks ⟨tag, payload, h⟩)

/-- What holds of the state and of what the owner makes of a request admitted, and answering keeps, holds after a
request command. -/
theorem serve_keeps {P : State → Prop} {k : RequestKind} {owner : Owner} {p : Port} {s : State} (hs : P s)
    (hanswered : ∀ t tag payload r, P t → P (answered k p tag payload r t))
    (howner : ∀ tag payload, Asks k p tag payload s → admission k p payload.length = none →
      P (owner p payload s).1) : P (serve k owner p s) := by
  obtain h | ⟨_, _, _, _, h⟩ | ⟨tag, payload, hasks, hadm, h⟩ := serve_cases k owner p s
  · rw [h]; exact hs
  · rw [h]; exact hanswered _ _ _ _ hs
  · rw [h]; exact hanswered _ _ _ _ (howner tag payload hasks hadm)

theorem coreOf_serve {k : RequestKind} {owner : Owner} {p : Port} {s : State}
    (howner : ∀ payload, coreOf (owner p payload s).1 = coreOf s) : coreOf (serve k owner p s) = coreOf s :=
  serve_keeps (P := fun t => coreOf t = coreOf s) rfl (fun _ _ _ _ h => h) fun _ payload _ _ => howner payload

@[simp] theorem reading_fst (f : Port → List Byte → State → Reply) (p : Port) (payload : List Byte) (s : State) :
    (reading f p payload s).1 = s := rfl

theorem coreOf_ownScanOpen (p : Port) (payload : List Byte) (s : State) :
    coreOf (ownScanOpen p payload s).1 = coreOf s := by
  unfold ownScanOpen
  split <;> rfl

theorem coreOf_ownScanPut (p : Port) (payload : List Byte) (s : State) :
    coreOf (ownScanPut p payload s).1 = coreOf s := by
  unfold ownScanPut
  split
  · rfl
  · split
    · rfl
    · dsimp only
      unfold logRejection
      split
      · rfl
      · rw [coreOf_handFault]; rfl

theorem coreOf_ownScanClose (p : Port) (payload : List Byte) (s : State) :
    coreOf (ownScanClose p payload s).1 = coreOf s := by
  unfold ownScanClose
  split <;> rfl

theorem coreOf_ownScanDrop (p : Port) (payload : List Byte) (s : State) :
    coreOf (ownScanDrop p payload s).1 = coreOf s := by
  unfold ownScanDrop
  split <;> rfl

theorem coreOf_ownClaim (p : Port) (payload : List Byte) (s : State) :
    coreOf (ownClaim p payload s).1 = coreOf s := by
  unfold ownClaim
  split
  · rfl
  · split <;> rfl

theorem coreOf_ownRelease (p : Port) (payload : List Byte) (s : State) :
    coreOf (ownRelease p payload s).1 = coreOf s := by
  unfold ownRelease
  split
  · rfl
  · split <;> rfl

theorem coreOf_stage (write : List Byte → Configuration → Option Configuration) (p : Port) (payload : List Byte)
    (s : State) : coreOf (stage write p payload s).1 = coreOf s := by
  unfold stage
  split
  · rfl
  · split
    · rfl
    · split <;> rfl

theorem coreOf_ownCommit (p : Port) (payload : List Byte) (s : State) :
    coreOf (ownCommit p payload s).1 = coreOf s := by
  unfold ownCommit
  split
  · rfl
  · split
    · rfl
    · split <;> rfl

theorem coreOf_ownGetConfig (p : Port) (payload : List Byte) (s : State) :
    coreOf (ownGetConfig p payload s).1 = coreOf s := by
  unfold ownGetConfig
  split
  · split
    · rfl
    · split
      · unfold getStaged
        split <;> rfl
      · rfl
  · rfl

theorem coreOf_ownSetPassState (p : Port) (payload : List Byte) (s : State) :
    coreOf (ownSetPassState p payload s).1 = coreOf s := by
  unfold ownSetPassState
  split
  · split
    · split
      · unfold requestTarget
        dsimp only
        split
        · rfl
        · split
          · rfl
          · exact coreOf_setPass _ _ s
      · rfl
    · rfl
  · rfl

theorem coreOf_ownClearFaults (p : Port) (payload : List Byte) (s : State) :
    coreOf (ownClearFaults p payload s).1 = coreOf s := by
  unfold ownClearFaults
  dsimp only
  split
  · rfl
  · split <;> rfl

theorem coreOf_ownRestart (p : Port) (payload : List Byte) (s : State) :
    coreOf (ownRestart p payload s).1 = coreOf s := by
  unfold ownRestart
  split
  · rfl
  · split <;> rfl

/-- Of the owners of requests, only those of ACKNOWLEDGE and STORE_IMAGE reach the core. -/
theorem coreOf_ownerOf {k : RequestKind} (hack : k ≠ .acknowledge) (hstore : k ≠ .storeImage) (p : Port)
    (payload : List Byte) (s : State) : coreOf (ownerOf k p payload s).1 = coreOf s := by
  cases k with
  | acknowledge => exact absurd rfl hack
  | storeImage => exact absurd rfl hstore
  | getNotices => rfl
  | setPassState => exact coreOf_ownSetPassState p payload s
  | claim => exact coreOf_ownClaim p payload s
  | release => exact coreOf_ownRelease p payload s
  | stageLine | stageCell | stagePass | stageGlobal => exact coreOf_stage _ p payload s
  | commit => exact coreOf_ownCommit p payload s
  | getConfig => exact coreOf_ownGetConfig p payload s
  | scanOpen => exact coreOf_ownScanOpen p payload s
  | scanPut => exact coreOf_ownScanPut p payload s
  | scanClose => exact coreOf_ownScanClose p payload s
  | scanDrop => exact coreOf_ownScanDrop p payload s
  | clearFaults => exact coreOf_ownClearFaults p payload s
  | restart => exact coreOf_ownRestart p payload s
  | getStatus | getCell | getPass | getLine | getHotlist | getPassinfo | getFaults => rfl

@[simp] theorem coreOf_serveUnknown (p : Port) (s : State) : coreOf (serveUnknown p s) = coreOf s := by
  unfold serveUnknown
  split
  · split <;> simp
  all_goals rfl

@[simp] theorem coreOf_eraseEndEvent (s : State) : coreOf (eraseEndEvent s) = coreOf s := by
  unfold eraseEndEvent
  split
  · rfl
  · split <;> rfl

/-! ### One command -/

/-- What a command answers: for most commands some state with the same core, else what its event makes of the state. -/
theorem exec_cases {P : Instr → State → Prop} (s : State)
    (quiet : ∀ c t, coreOf t = coreOf s → P c t)
    (acknowledge : ∀ p, P (.acknowledge p) (serve .acknowledge ownAcknowledge p s))
    (storeImage : ∀ p, P (.storeImage p) (serve .storeImage ownStoreImage p s))
    (requestTransaction : ∀ p bytes trailing begun, P (.requestTransaction p bytes trailing begun)
      (transact p bytes.length begun (transactionEvent p bytes trailing) s))
    (poll : ∀ p n begun, P (.poll p n begun) (transact p n begun (takePoll p n) s))
    (cellComputation : P .cellComputation (cellComputationEvent s))
    (writeEnd : ∀ misread, P (.writeEnd misread) (writeEndEvent misread s))
    (storeCompletion : P .storeCompletion (storeCompletionEvent s))
    (powerOn : P .powerOn (powerOnEvent s))
    (resetPin : P .resetPin (resetPinEvent s))
    (brownout : P .brownout (brownoutEvent s))
    (resetHeldEnd : ∀ l, P (.resetHeldEnd l) (resetHeldEndEvent l s))
    (restartPendingExpiry : ∀ ms, P (.restartPendingExpiry ms) (restartPendingExpiryEvent (elapse ms s)))
    (imageLoad : P .imageLoad (imageLoadEvent s))
    (holdDomainDisturbance : ∀ u, P (.holdDomainDisturbance u) (holdDisturbance u s)) :
    ∀ c, ∃ t, exec c s = .next t ∧ P c t := by
  have request : ∀ k p, k ≠ .acknowledge → k ≠ .storeImage →
      ∃ t, exec (requestCommand k p) s = .next t ∧ P (requestCommand k p) t := fun k p hack hstore =>
    ⟨_, exec_request k p s, quiet _ _ (coreOf_serve fun payload => coreOf_ownerOf hack hstore p payload s)⟩
  intro c
  cases c with
  | acknowledge p => exact ⟨_, rfl, acknowledge p⟩
  | storeImage p => exact ⟨_, rfl, storeImage p⟩
  | requestTransaction p bytes trailing begun => exact ⟨_, rfl, requestTransaction p bytes trailing begun⟩
  | poll p n begun => exact ⟨_, rfl, poll p n begun⟩
  | cellComputation => exact ⟨_, rfl, cellComputation⟩
  | writeEnd misread => exact ⟨_, rfl, writeEnd misread⟩
  | storeCompletion => exact ⟨_, rfl, storeCompletion⟩
  | powerOn => exact ⟨_, rfl, powerOn⟩
  | resetPin => exact ⟨_, rfl, resetPin⟩
  | brownout => exact ⟨_, rfl, brownout⟩
  | resetHeldEnd l => exact ⟨_, rfl, resetHeldEnd l⟩
  | restartPendingExpiry ms => exact ⟨_, rfl, restartPendingExpiry ms⟩
  | imageLoad => exact ⟨_, rfl, imageLoad⟩
  | holdDomainDisturbance u => exact ⟨_, rfl, holdDomainDisturbance u⟩
  | getStatus p => exact request .getStatus p (by decide) (by decide)
  | getNotices p => exact request .getNotices p (by decide) (by decide)
  | getCell p => exact request .getCell p (by decide) (by decide)
  | getPass p => exact request .getPass p (by decide) (by decide)
  | getLine p => exact request .getLine p (by decide) (by decide)
  | getHotlist p => exact request .getHotlist p (by decide) (by decide)
  | getPassinfo p => exact request .getPassinfo p (by decide) (by decide)
  | setPassState p => exact request .setPassState p (by decide) (by decide)
  | claim p => exact request .claim p (by decide) (by decide)
  | release p => exact request .release p (by decide) (by decide)
  | stageLine p => exact request .stageLine p (by decide) (by decide)
  | stageCell p => exact request .stageCell p (by decide) (by decide)
  | stagePass p => exact request .stagePass p (by decide) (by decide)
  | stageGlobal p => exact request .stageGlobal p (by decide) (by decide)
  | commit p => exact request .commit p (by decide) (by decide)
  | getConfig p => exact request .getConfig p (by decide) (by decide)
  | scanOpen p => exact request .scanOpen p (by decide) (by decide)
  | scanPut p => exact request .scanPut p (by decide) (by decide)
  | scanClose p => exact request .scanClose p (by decide) (by decide)
  | scanDrop p => exact request .scanDrop p (by decide) (by decide)
  | getFaults p => exact request .getFaults p (by decide) (by decide)
  | clearFaults p => exact request .clearFaults p (by decide) (by decide)
  | restart p => exact request .restart p (by decide) (by decide)
  | unknownKind p => exact ⟨_, rfl, quiet _ _ (coreOf_serveUnknown p s)⟩
  | entryStorageUpset i e code => exact ⟨_, rfl, quiet _ (upsetEntry i e code s) rfl⟩
  | settleEnd | armEdge | armTimeout | countEnd | countTimeout | widthEnd | widthTimeout | readingRetire
  | crystalGap | crystalRestore | lockReport | lossOfLockReport | lockTimeout | retryExpiry | sweepBoundary
  | spallOverdue | batchExpiry | scanEntryRetire | claimExpiry | eraseEnd | crystalEdge | cycleClose
  | fallingEdge => exact ⟨_, rfl, quiet _ _ (by simp)⟩

/-- A step passes a millisecond or runs a command: what both keep, it keeps. -/
theorem step_keeps {P : State → Prop} (hqueue : ∀ s rest, P s → P { s with pending := rest })
    (helapse : ∀ s, P s → P (elapse 1 s)) (hexec : ∀ s, P s → ∀ c, ∃ t, exec c s = .next t ∧ P t) {s t : State}
    (hs : P s) (hstep : step s = .next t) : P t := by
  unfold step at hstep
  split at hstep
  · cases hstep; exact helapse s hs
  · next c rest _ =>
    obtain ⟨u, hu, hP⟩ := hexec _ (hqueue s rest hs) c
    rw [hu] at hstep
    cases hstep
    exact hP

end Sys2Proof.Proofs.Frames

/-! PROOF. The restart sequence, case by case, and what each case leaves of the queue, the flash and the alarm unit. -/
namespace Sys2Proof.Proofs.Sequences
open Sys2Proof Sys2Proof.Machine Sys2Proof.Proofs.Frames

/-! ### The end of RESET_HELD (R173) -/

theorem passHeld_of_low {s : State} (hlow : s.pins.resetLow = true ∨ s.pins.coreLow = true) : passHeld s = s :=
  if_pos hlow

theorem passHeld_of_high {s : State} (hreset : s.pins.resetLow = false) (hcore : s.pins.coreLow = false) :
    passHeld s = leaveHeld s := by
  simp [passHeld, hreset, hcore]

theorem leaveHeld_of_cold {s : State} (hcause : warmCause s.cause = false) :
    leaveHeld s = { s with stage := .imageLoad } := by
  simp [leaveHeld, hcause]

theorem leaveHeld_of_warm {s : State} (hcause : warmCause s.cause = true) : leaveHeld s = checkHold s := by
  simp [leaveHeld, hcause]

theorem checkHold_of_passed {s : State} (hhold : holdPasses s = true) : checkHold s = keepHold s := if_pos hhold

theorem checkHold_of_failed {s : State} (hhold : holdPasses s = false) : checkHold s = loseHold s := by
  simp [checkHold, hhold]

/-- RESET_HELD goes on waiting, or ends as cold, with the retained contents kept, or with them lost. -/
theorem passHeld_cases {P : State → Prop} (s : State)
    (held : s.pins.resetLow = true ∨ s.pins.coreLow = true → P s)
    (cold : s.pins.resetLow = false → s.pins.coreLow = false → warmCause s.cause = false →
      P { s with stage := .imageLoad })
    (kept : s.pins.resetLow = false → s.pins.coreLow = false → P (keepHold s))
    (lost : s.pins.resetLow = false → s.pins.coreLow = false → P (loseHold s)) : P (passHeld s) := by
  by_cases hlow : s.pins.resetLow = true ∨ s.pins.coreLow = true
  · rw [passHeld_of_low hlow]; exact held hlow
  · simp only [not_or, Bool.not_eq_true] at hlow
    obtain ⟨hreset, hcore⟩ := hlow
    rw [passHeld_of_high hreset hcore]
    cases hcause : warmCause s.cause with
    | false => rw [leaveHeld_of_cold hcause]; exact cold hreset hcore hcause
    | true =>
      rw [leaveHeld_of_warm hcause]
      cases hhold : holdPasses s with
      | true => rw [checkHold_of_passed hhold]; exact kept hreset hcore
      | false => rw [checkHold_of_failed hhold]; exact lost hreset hcore

/-! ### Transactions (R151, R156) -/

/-- A poll that delivers a RESTART begins the sequence; any other drives the port's data out alone. -/
theorem takePoll_cases {P : State → Prop} (p : Port) (n : Nat) (s : State)
    (driven : ∀ bytes, P (driveOut p bytes s)) (begun : ∀ bytes, P (beginWarm .request (driveOut p bytes s))) :
    P (takePoll p n s) := by
  unfold takePoll
  dsimp only
  split
  · exact begun _
  · exact driven _

theorem transact_cases {P : State → Prop} (p : Port) (n : Nat) (begun : Bool) (body : State → State) (s : State)
    (none : P s) (taken : s.stage = .running → begun = false → P (body s)) (ignored : P (driveOut p [] s)) :
    P (transact p n begun body s) := by
  unfold transact
  split
  · exact none
  · split
    · next h => exact taken (by simpa [State.running] using h.1) h.2
    · exact ignored

/-- What a transaction makes of a running machine: a state with the same core, or the start of a sequence. -/
theorem transactionEvent_cases {P : State → Prop} (p : Port) (bytes : List Byte) (trailing : Bool) (s : State)
    (taken : P (takeTransaction p bytes trailing s)) (driven : ∀ bytes, P (driveOut p bytes s))
    (begun : ∀ bytes, P (beginWarm .request (driveOut p bytes s))) :
    P (transactionEvent p bytes trailing s) := by
  unfold transactionEvent
  split
  · exact takePoll_cases p _ s driven begun
  · exact taken

theorem restartPendingExpiryEvent_cases {P : State → Prop} (s : State) (waits : P s)
    (begun : s.stage = .running → P (beginWarm .request s)) : P (restartPendingExpiryEvent s) := by
  unfold restartPendingExpiryEvent
  split
  · exact waits
  · split
    · next h => exact begun (by simpa [State.running] using h.1)
    · exact waits

/-! ### The queue and the flash -/

/-- The queue and the flash of a state, which no restart changes. -/
def outsideOf (s : State) : List Instr × Flash := (s.pending, s.flash)

theorem outsideOf_of_core {s t : State} (h : coreOf t = coreOf s) : outsideOf t = outsideOf s :=
  Prod.ext (congrArg Core.pending h) (congrArg Core.flash h)

@[simp] theorem outsideOf_loseHold (s : State) : outsideOf (loseHold s) = outsideOf s := by
  simp [outsideOf, loseHold, clearForCold, clearAlarms]

@[simp] theorem outsideOf_passHeld (s : State) : outsideOf (passHeld s) = outsideOf s :=
  passHeld_cases (P := fun t => outsideOf t = outsideOf s) s (fun _ => rfl) (fun _ _ _ => rfl) (fun _ _ => rfl)
    fun _ _ => outsideOf_loseHold s

@[simp] theorem outsideOf_beginWarm (cause : RestartCause) (s : State) :
    outsideOf (beginWarm cause s) = outsideOf s := outsideOf_passHeld _

@[simp] theorem outsideOf_powerOnEvent (s : State) : outsideOf (powerOnEvent s) = outsideOf s := outsideOf_passHeld _

@[simp] theorem outsideOf_resetPinEvent (s : State) : outsideOf (resetPinEvent s) = outsideOf s := by
  unfold resetPinEvent
  split
  · rfl
  · exact outsideOf_beginWarm _ _

@[simp] theorem outsideOf_brownoutEvent (s : State) : outsideOf (brownoutEvent s) = outsideOf s := by
  unfold brownoutEvent
  split
  · rfl
  · exact outsideOf_beginWarm _ _

@[simp] theorem outsideOf_resetHeldEndEvent (l : HeldLevel) (s : State) :
    outsideOf (resetHeldEndEvent l s) = outsideOf s := by
  unfold resetHeldEndEvent
  split
  · exact outsideOf_passHeld _
  · rfl

@[simp] theorem outsideOf_reportLoad (o : LoadOutcome) (s : State) : outsideOf (reportLoad o s) = outsideOf s := by
  unfold reportLoad
  split
  · rfl
  · exact outsideOf_of_core (coreOf_handFault _ _ _ s)

@[simp] theorem outsideOf_imageLoadEvent (s : State) : outsideOf (imageLoadEvent s) = outsideOf s := by
  unfold imageLoadEvent
  split
  · exact outsideOf_reportLoad _ _
  · rfl

@[simp] theorem outsideOf_takePoll (p : Port) (n : Nat) (s : State) : outsideOf (takePoll p n s) = outsideOf s :=
  takePoll_cases (P := fun t => outsideOf t = outsideOf s) p n s (fun _ => rfl) fun _ => outsideOf_beginWarm _ _

@[simp] theorem outsideOf_transact (p : Port) (n : Nat) (begun : Bool) (body : State → State) (s : State)
    (h : outsideOf (body s) = outsideOf s) : outsideOf (transact p n begun body s) = outsideOf s :=
  transact_cases (P := fun t => outsideOf t = outsideOf s) p n begun body s rfl (fun _ _ => h) rfl

@[simp] theorem outsideOf_transactionEvent (p : Port) (bytes : List Byte) (trailing : Bool) (s : State) :
    outsideOf (transactionEvent p bytes trailing s) = outsideOf s :=
  transactionEvent_cases (P := fun t => outsideOf t = outsideOf s) p bytes trailing s
    (outsideOf_of_core (coreOf_takeTransaction p bytes trailing s)) (fun _ => rfl) fun _ => outsideOf_beginWarm _ _

@[simp] theorem outsideOf_restartPendingExpiryEvent (s : State) :
    outsideOf (restartPendingExpiryEvent s) = outsideOf s :=
  restartPendingExpiryEvent_cases (P := fun t => outsideOf t = outsideOf s) s rfl fun _ => outsideOf_beginWarm _ _

end Sys2Proof.Proofs.Sequences

/-! PROOF. The alarm unit: what a change of a record leaves of the hot list, the lines and the retained table. -/
namespace Sys2Proof.Proofs.AlarmUnit
open Sys2Proof Sys2Proof.Machine Sys2Proof.Proofs.Frames Sys2Proof.Proofs.Sequences

theorem changeAlarm_of_ne {i : CellIx} {a : AlarmRecord} {s : State} (h : s.alarms.get i ≠ a) :
    changeAlarm i a s =
      notify .trip .alarmChange
        (notify .control .alarmChange
          (retain (fun h => { h with alarms := put h.alarms i (retainedEntry a) })
            (driveAlert (passOf i) (rebuildHotList { s with alarms := put s.alarms i a })))) :=
  if_neg h

@[simp] theorem rebuildHotList_hotList (s : State) :
    (rebuildHotList s).hotList = (rankedCells s.alarms).take 16 := by simp only [rebuildHotList, hotListLimit]

@[simp] theorem rebuildHotList_unlisted (s : State) :
    (rebuildHotList s).unlisted = (rankedCells s.alarms).length - 16 := by simp only [rebuildHotList, hotListLimit]

@[simp] theorem outsideOf_changeAlarm (i : CellIx) (a : AlarmRecord) (s : State) :
    outsideOf (changeAlarm i a s) = outsideOf s := by
  unfold changeAlarm
  split
  · rfl
  · simp [outsideOf]

@[simp] theorem changeAlarm_stage (i : CellIx) (a : AlarmRecord) (s : State) :
    (changeAlarm i a s).stage = s.stage := by
  unfold changeAlarm
  split
  · rfl
  · simp

theorem passOf_cellAt (p : PassIx) (k : Fin 80) : passOf (cellAt p k) = p :=
  Fin.ext (by simp only [passOf, cellAt]; omega)

/-- A record of another pass is none of those that a pass's line follows. -/
theorem passAlarmed_put_of_ne {alarms : Vector AlarmRecord 640} {i : CellIx} {a : AlarmRecord} {p : PassIx}
    (h : p ≠ passOf i) : passAlarmed (put alarms i a) p = passAlarmed alarms p := by
  have hne : ∀ k, i ≠ cellAt p k := fun k hk => h (by rw [hk, passOf_cellAt])
  simp only [passAlarmed, put_get_ne _ _ _ _ (hne _)]

theorem rankedCells_of_idle {alarms : Vector AlarmRecord 640} (h : ∀ i, (alarms.get i).state = .idle) :
    rankedCells alarms = [] := by
  have hnone : alarmedCells alarms = [] := by simp [alarmedCells, h]
  rw [rankedCells, hnone]
  rfl

theorem passAlarmed_of_idle {alarms : Vector AlarmRecord 640} (h : ∀ i, (alarms.get i).state = .idle) (p : PassIx) :
    passAlarmed alarms p = false := by
  simp [passAlarmed, h]

/-! ### The hot list and the lines follow the records (R112, R113, R115) -/

theorem follow_of_core {s t : State} (h : coreOf t = coreOf s) (hs : AlarmOutputsFollow s) : AlarmOutputsFollow t := by
  obtain ⟨hlist, hunlisted, hlines⟩ := hs
  have halarms : t.alarms = s.alarms := congrArg Core.alarms h
  refine ⟨?_, ?_, ?_⟩
  · rw [halarms, ← hlist]; exact congrArg Core.hotList h
  · rw [halarms, ← hunlisted]; exact congrArg Core.unlisted h
  · intro p
    rw [halarms, ← hlines p, show t.passAlert = s.passAlert from congrArg Core.passAlert h]

theorem follow_changeAlarm (i : CellIx) (a : AlarmRecord) {s : State} (hs : AlarmOutputsFollow s) :
    AlarmOutputsFollow (changeAlarm i a s) := by
  by_cases hsame : s.alarms.get i = a
  · subst hsame; rw [changeAlarm_same]; exact hs
  · rw [changeAlarm_of_ne hsame]
    refine ⟨by simp, by simp, fun p => ?_⟩
    change (put s.passAlert (passOf i) (passAlarmed (put s.alarms i a) (passOf i))).get p =
      passAlarmed (put s.alarms i a) p
    rw [put_get]
    split
    · next hp => rw [hp]
    · next hp => rw [passAlarmed_put_of_ne (Ne.symm hp)]; exact hs.2.2 p

/-- RUNNING drives the lines itself. -/
theorem follow_reachRunning {s : State} (hlist : s.hotList = (rankedCells s.alarms).take 16)
    (hunlisted : s.unlisted = (rankedCells s.alarms).length - 16) : AlarmOutputsFollow (reachRunning s) :=
  ⟨hlist, hunlisted, fun p => get_ofFn _ p⟩

theorem follow_clearAlarms (s : State) : AlarmOutputsFollow (clearAlarms s) := by
  have hidle : ∀ i, ((clearAlarms s).alarms.get i).state = .idle := fun i => by simp [clearAlarms, AlarmRecord.idleRecord]
  refine ⟨?_, ?_, fun p => ?_⟩
  · rw [rankedCells_of_idle hidle]; rfl
  · rw [rankedCells_of_idle hidle]; rfl
  · rw [passAlarmed_of_idle hidle]; exact get_replicate _ _ p

theorem follow_loseHold (s : State) : AlarmOutputsFollow (loseHold s) :=
  follow_of_core (coreOf_handFault _ _ _ _) (follow_clearAlarms _)

theorem follow_keepHold (s : State) : AlarmOutputsFollow (keepHold s) :=
  follow_reachRunning (by rw [rebuildHotList_hotList, rebuildHotList_alarms])
    (by rw [rebuildHotList_unlisted, rebuildHotList_alarms])

theorem follow_passHeld {s : State} (hs : AlarmOutputsFollow s) : AlarmOutputsFollow (passHeld s) :=
  passHeld_cases s (fun _ => hs) (fun _ _ _ => hs) (fun _ _ => follow_keepHold s) fun _ _ => follow_loseHold s

theorem follow_beginWarm (cause : RestartCause) {s : State} (hs : AlarmOutputsFollow s) :
    AlarmOutputsFollow (beginWarm cause s) := follow_passHeld (s := abandon cause s) hs

theorem follow_takePoll (p : Port) (n : Nat) {s : State} (hs : AlarmOutputsFollow s) :
    AlarmOutputsFollow (takePoll p n s) :=
  takePoll_cases p n s (fun _ => hs) fun bytes => follow_beginWarm .request (s := driveOut p bytes s) hs

/-! ### One command -/

theorem follow_computeCell (k : Word) (i : CellIx) {s : State} (hs : AlarmOutputsFollow s) :
    AlarmOutputsFollow (computeCell k i s) :=
  follow_changeAlarm _ _ (follow_of_core (s := s) ((coreOf_reportMismatch _ _ _).trans (coreOf_withWorking s _)) hs)

theorem follow_cellComputationEvent {s : State} (hs : AlarmOutputsFollow s) :
    AlarmOutputsFollow (cellComputationEvent s) := by
  unfold cellComputationEvent
  split
  · exact hs
  · split
    · exact hs
    · exact follow_of_core (coreOf_advanceSweep _ _ _ _ _) (follow_computeCell _ _ hs)

/-- An owner of ACKNOWLEDGE leaves the state, or acknowledges the record of a cell with its own severity, HIGHHIGH on
the trip port alone (R108, R109). -/
theorem ownAcknowledge_cases (p : Port) (payload : List Byte) (s : State) :
    (ownAcknowledge p payload s).1 = s ∨
      ∃ hi lo sev named i, payload = [hi, lo, sev] ∧ severityOf? sev = some named ∧ (named = .highHigh → p = .trip) ∧
        existingCell? s.active.config (read16 hi lo) = some i ∧ named = (s.alarms.get i).severity ∧
        (ownAcknowledge p payload s).1 = changeAlarm i (moveAcknowledged (s.alarms.get i)) s := by
  unfold ownAcknowledge
  split
  · next hi lo sev =>
    split
    · exact .inl rfl
    · exact .inl rfl
    · next named hnone hnamed =>
      split
      · exact .inl rfl
      · next hport =>
        split
        · exact .inl rfl
        · next i hcell =>
          unfold acknowledgeCell
          dsimp only
          split
          · exact .inl rfl
          · exact .inl rfl
          all_goals
            split
            · next hsev =>
              refine .inr ⟨hi, lo, sev, named, i, rfl, hnamed, fun hhh => ?_, hcell, hsev, rfl⟩
              exact Decidable.not_not.1 fun hne => hport ⟨hhh, hne⟩
            · exact .inl rfl
  · exact .inl rfl

theorem follow_ownAcknowledge (p : Port) (payload : List Byte) {s : State} (hs : AlarmOutputsFollow s) :
    AlarmOutputsFollow (ownAcknowledge p payload s).1 := by
  obtain h | ⟨_, _, _, _, i, _, _, _, _, _, h⟩ := ownAcknowledge_cases p payload s
  · rw [h]; exact hs
  · rw [h]; exact follow_changeAlarm i _ hs

theorem follow_ownStoreImage (p : Port) (payload : List Byte) {s : State} (hs : AlarmOutputsFollow s) :
    AlarmOutputsFollow (ownStoreImage p payload s).1 := by
  unfold ownStoreImage
  split
  · exact hs
  · split <;> exact hs

theorem follow_writeEndEvent (misread : List (Nat × Byte)) {s : State} (hs : AlarmOutputsFollow s) :
    AlarmOutputsFollow (writeEndEvent misread s) := by
  unfold writeEndEvent
  split
  · exact hs
  · split <;> exact hs

theorem follow_storeCompletionEvent {s : State} (hs : AlarmOutputsFollow s) :
    AlarmOutputsFollow (storeCompletionEvent s) := by
  unfold storeCompletionEvent
  split
  · exact hs
  · split
    · split
      · exact hs
      · exact follow_of_core (s := s) (by rw [coreOf_notify, coreOf_handFault]; rfl) hs
    all_goals exact hs

theorem follow_powerOnEvent (s : State) : AlarmOutputsFollow (powerOnEvent s) :=
  follow_passHeld (follow_clearAlarms _)

theorem follow_resetPinEvent {s : State} (hs : AlarmOutputsFollow s) : AlarmOutputsFollow (resetPinEvent s) := by
  unfold resetPinEvent
  split
  · exact hs
  · exact follow_beginWarm _ (s := { s with pins := { s.pins with resetLow := true } }) hs

theorem follow_brownoutEvent {s : State} (hs : AlarmOutputsFollow s) : AlarmOutputsFollow (brownoutEvent s) := by
  unfold brownoutEvent
  split
  · exact hs
  · exact follow_beginWarm _ (s := { s with pins := { s.pins with coreLow := true } }) hs

theorem follow_resetHeldEndEvent (l : HeldLevel) {s : State} (hs : AlarmOutputsFollow s) :
    AlarmOutputsFollow (resetHeldEndEvent l s) := by
  unfold resetHeldEndEvent
  split
  · exact follow_passHeld (s := { s with pins := releaseLevel l s.pins }) hs
  · exact hs

theorem coreOf_reportLoad (o : LoadOutcome) (s : State) : coreOf (reportLoad o s) = coreOf s := by
  unfold reportLoad
  split <;> simp

theorem follow_imageLoadEvent {s : State} (hs : AlarmOutputsFollow s) : AlarmOutputsFollow (imageLoadEvent s) := by
  unfold imageLoadEvent
  split
  · have hload : ∀ o v, AlarmOutputsFollow v → AlarmOutputsFollow (reportLoad o v) := fun o v hv =>
      follow_of_core (coreOf_reportLoad o v) hv
    obtain ⟨hlist, hunlisted, _⟩ := hload (loadOutcome s.strap s.flash) { s with
        active := loadedConfig (loadOutcome s.strap s.flash), passes := Vector.replicate 8 PassService.online
        hold := sealHold (coldHold s.cause (loadedConfig (loadOutcome s.strap s.flash))) } hs
    exact follow_reachRunning hlist hunlisted
  · exact hs

theorem follow_restartPendingExpiryEvent {s : State} (hs : AlarmOutputsFollow s) :
    AlarmOutputsFollow (restartPendingExpiryEvent s) :=
  restartPendingExpiryEvent_cases s hs fun _ => follow_beginWarm .request hs

/-- Every command keeps the hot list, the unlisted count and the lines those of the alarm records. -/
theorem follow_exec {s : State} (hs : AlarmOutputsFollow s) (c : Instr) :
    ∃ t, exec c s = .next t ∧ AlarmOutputsFollow t := by
  refine exec_cases (P := fun _ t => AlarmOutputsFollow t) s (fun _ t ht => follow_of_core ht hs)
    (fun p => serve_keeps hs (fun _ _ _ _ h => h) fun _ payload _ _ => follow_ownAcknowledge p payload hs)
    (fun p => serve_keeps hs (fun _ _ _ _ h => h) fun _ payload _ _ => follow_ownStoreImage p payload hs)
    (fun p bytes trailing begun => ?transaction) (fun p n begun => ?poll) (follow_cellComputationEvent hs)
    (fun misread => follow_writeEndEvent misread hs) (follow_storeCompletionEvent hs) (follow_powerOnEvent s)
    (follow_resetPinEvent hs) (follow_brownoutEvent hs) (fun l => follow_resetHeldEndEvent l hs)
    (fun ms => follow_restartPendingExpiryEvent (follow_of_core (coreOf_elapse ms s) hs)) (follow_imageLoadEvent hs)
    (fun _ => hs) c
  case transaction =>
    exact transact_cases p _ begun _ s hs
      (fun _ _ => transactionEvent_cases p bytes trailing s (follow_of_core (coreOf_takeTransaction _ _ _ s) hs)
        (fun _ => hs) fun bytes => follow_beginWarm .request (s := driveOut p bytes s) hs) hs
  case poll => exact transact_cases p n begun _ s hs (fun _ _ => follow_takePoll p n hs) hs

/-- Settles O58: `follow_exec` for a command, and time leaves the alarm unit. -/
theorem alarmOutputsFollowRecords : Obligations.AlarmOutputsFollowRecords := fun _ _ =>
  step_keeps (P := AlarmOutputsFollow) (fun _ _ hs => hs) (fun s => follow_of_core (coreOf_elapse 1 s))
    (fun _ => follow_exec)

end Sys2Proof.Proofs.AlarmUnit

/-! PROOF. The flash region stays canonical. -/
namespace Sys2Proof.Proofs.FlashRegion
open Sys2Proof Sys2Proof.Machine Sys2Proof.Proofs.Frames Sys2Proof.Proofs.Sequences Sys2Proof.Proofs.AlarmUnit

/-- The region is canonical. -/
def Canonical (s : State) : Prop := s.flash.region.wf = true

theorem canonical_of_outside {s t : State} (h : outsideOf t = outsideOf s) (hs : Canonical s) : Canonical t := by
  have hflash : t.flash = s.flash := congrArg Prod.snd h
  rw [Canonical, hflash]
  exact hs

theorem outsideOf_ownAcknowledge (p : Port) (payload : List Byte) (s : State) :
    outsideOf (ownAcknowledge p payload s).1 = outsideOf s := by
  obtain h | ⟨_, _, _, _, i, _, _, _, _, _, h⟩ := ownAcknowledge_cases p payload s
  · rw [h]
  · rw [h, outsideOf_changeAlarm]

theorem outsideOf_cellComputationEvent (s : State) : outsideOf (cellComputationEvent s) = outsideOf s := by
  unfold cellComputationEvent
  split
  · rfl
  · next run _ =>
    split
    · rfl
    · next i rest _ =>
      calc outsideOf (advanceSweep run.number i rest _ (computeCell run.number i s))
          = outsideOf (computeCell run.number i s) := outsideOf_of_core (coreOf_advanceSweep _ _ _ _ _)
        _ = outsideOf (reportMismatch (freshMismatch s i) i _) := outsideOf_changeAlarm _ _ _
        _ = outsideOf s := outsideOf_of_core ((coreOf_reportMismatch _ _ _).trans (coreOf_withWorking s _))

theorem canonical_ownStoreImage (p : Port) (payload : List Byte) {s : State} (hs : Canonical s) :
    Canonical (ownStoreImage p payload s).1 := by
  unfold ownStoreImage
  split
  · exact hs
  · split
    · exact hs
    · exact eraseFlash_wf _ hs

theorem canonical_writeEndEvent (misread : List (Nat × Byte)) {s : State} (hs : Canonical s) :
    Canonical (writeEndEvent misread s) := by
  unfold writeEndEvent
  split
  · exact hs
  · split
    · exact misreadFlash_wf _ _ (programFlash_wf _ _ _ hs)
    · exact hs
    · exact hs

theorem canonical_storeCompletionEvent {s : State} (hs : Canonical s) : Canonical (storeCompletionEvent s) := by
  unfold storeCompletionEvent
  split
  · exact hs
  · split
    · split
      · exact programFlash_wf _ _ _ hs
      · exact canonical_of_outside (s := s) (outsideOf_of_core (by rw [coreOf_notify, coreOf_handFault]; rfl)) hs
    all_goals exact hs

theorem canonical_exec {s : State} (hs : Canonical s) (c : Instr) : ∃ t, exec c s = .next t ∧ Canonical t := by
  have same : ∀ t, outsideOf t = outsideOf s → Canonical t := fun t h => canonical_of_outside h hs
  exact exec_cases (P := fun _ t => Canonical t) s (fun _ t ht => same t (outsideOf_of_core ht))
    (fun p => serve_keeps hs (fun _ _ _ _ h => h) fun _ payload _ _ => same _ (outsideOf_ownAcknowledge p payload s))
    (fun p => serve_keeps hs (fun _ _ _ _ h => h) fun _ payload _ _ => canonical_ownStoreImage p payload hs)
    (fun p bytes trailing begun => same _ (outsideOf_transact p _ begun _ s (outsideOf_transactionEvent p bytes trailing s)))
    (fun p n begun => same _ (outsideOf_transact p n begun _ s (outsideOf_takePoll p n s)))
    (same _ (outsideOf_cellComputationEvent s)) (fun misread => canonical_writeEndEvent misread hs)
    (canonical_storeCompletionEvent hs) (same _ (outsideOf_powerOnEvent s)) (same _ (outsideOf_resetPinEvent s))
    (same _ (outsideOf_brownoutEvent s)) (fun l => same _ (outsideOf_resetHeldEndEvent l s))
    (fun ms => same _ ((outsideOf_restartPendingExpiryEvent _).trans (outsideOf_of_core (coreOf_elapse ms s))))
    (same _ (outsideOf_imageLoadEvent s)) (fun _ => hs) c

/-- Settles O57: three commands write the region, by operations that keep its form, and no other reaches it. -/
theorem flashRegionStaysCanonical : Obligations.FlashRegionStaysCanonical := fun _ _ =>
  step_keeps (P := Canonical) (fun _ _ hs => hs)
    (fun s => canonical_of_outside (outsideOf_of_core (coreOf_elapse 1 s))) (fun _ => canonical_exec)

end Sys2Proof.Proofs.FlashRegion

/-! PROOF. A HIGHHIGH record and its ways out (R110). -/
namespace Sys2Proof.Proofs.HighHigh
open Sys2Proof Sys2Proof.Machine Sys2Proof.Proofs.Frames Sys2Proof.Proofs.Sequences Sys2Proof.Proofs.AlarmUnit

/-- RAISED or LINGERING at HIGHHIGH: a record that R110 guards. -/
def Tripped (a : AlarmRecord) : Prop := (a.state = .raised ∨ a.state = .lingering) ∧ a.severity = .highHigh

/-- HELD at HIGHHIGH: a record that the trip port has acknowledged. -/
def HeldTrip (a : AlarmRecord) : Prop := a.state = .held ∧ a.severity = .highHigh

/-- A cell's retained entry is that of its record. -/
def InStep (i : CellIx) (s : State) : Prop := s.hold.contents.alarms.get i = retainedEntry (s.alarms.get i)

/-- The command is an ACKNOWLEDGE of HIGHHIGH for cell `i` that the trip port's slot holds. -/
def Releases (i : CellIx) (s : State) (c : Instr) : Prop :=
  c = .acknowledge .trip ∧
    ∃ tag hi lo : Byte, Asks .acknowledge .trip tag [hi, lo, 3#8] s ∧ hi.toNat * 256 + lo.toNat = i.1

/-- Command `c` takes `s` to `t` and keeps R110 for cell `i`. -/
structure Guarded (i : CellIx) (s : State) (c : Instr) (t : State) : Prop where
  tripped : Tripped (s.alarms.get i) → InStep i s → s.stage ≠ .imageLoad →
    (Tripped (t.alarms.get i) ∧ t.stage ≠ .imageLoad ∧ ((∀ u, c ≠ .holdDomainDisturbance u) → InStep i t)) ∨
      Releases i s c ∨ c = .powerOn ∨ t.stage = .imageLoad ∧ (t.cause = .holdLost ∨ t.cause = .powerOn)
  held : HeldTrip (t.alarms.get i) → HeldTrip (s.alarms.get i) ∨ Releases i s c

/-! ### Records that are not acknowledged -/

theorem higherSeverity_highHigh (c : Severity) : higherSeverity .highHigh c = .highHigh := by cases c <;> rfl

/-- A known hand-off lowers no HIGHHIGH record (R105). -/
theorem tripped_moveKnown (k : Word) (e : Int) (c : Severity) {a : AlarmRecord} (h : Tripped a) :
    Tripped (moveKnown k e c a) := by
  obtain ⟨hstate, hsev⟩ := h
  unfold moveKnown
  rcases hstate with hstate | hstate <;> rw [hstate] <;> dsimp only <;> split
  · exact ⟨.inr rfl, hsev⟩
  · exact ⟨.inl rfl, by rw [hsev]; exact higherSeverity_highHigh c⟩
  · exact ⟨.inr rfl, hsev⟩
  · exact ⟨.inl rfl, by rw [hsev]; exact higherSeverity_highHigh c⟩

theorem tripped_moveRecord (h : HandOff) {a : AlarmRecord} (ha : Tripped a) : Tripped (moveRecord h a) := by
  unfold moveRecord
  split
  · split
    · exact tripped_moveKnown _ _ _ ha
    · exact ha
  · have hne : a.state ≠ .held := by rcases ha.1 with h | h <;> simp [h]
    rw [moveUnknown, if_neg fun hh => hne hh.1]
    exact ha

/-- A known hand-off leaves a record HELD only where it was HELD at the same severity (R105). -/
theorem heldTrip_of_moveKnown {k : Word} {e : Int} {c : Severity} {a : AlarmRecord}
    (h : HeldTrip (moveKnown k e c a)) : HeldTrip a := by
  obtain ⟨hstate, hsev⟩ := h
  unfold moveKnown at hstate hsev
  split at hstate
  · split at hstate <;> simp [AlarmRecord.idleRecord] at hstate
  · next ha => split at hstate <;> simp [ha] at hstate
  · next ha =>
    split at hstate
    · simp [AlarmRecord.idleRecord] at hstate
    · next hc =>
      split at hstate
      · simp at hstate
      · next hrank => simp only [ha, hc, hrank, if_false] at hsev; exact ⟨ha, hsev⟩
  · next ha => split at hstate <;> simp [ha] at hstate

theorem heldTrip_of_moveRecord {h : HandOff} {a : AlarmRecord} (hm : HeldTrip (moveRecord h a)) : HeldTrip a := by
  unfold moveRecord at hm
  split at hm
  · split at hm
    · exact heldTrip_of_moveKnown hm
    · exact hm
  · unfold moveUnknown at hm
    split at hm
    · exact absurd hm.1 (by simp [AlarmRecord.idleRecord])
    · exact hm

/-! ### Commands that leave the record or change one -/

theorem guarded_of_same {i : CellIx} {s t : State} (c : Instr) (halarms : t.alarms = s.alarms)
    (hretained : (∀ u, c ≠ .holdDomainDisturbance u) → t.hold.contents.alarms = s.hold.contents.alarms)
    (hstage : t.stage = s.stage) : Guarded i s c t where
  tripped htrip hin hload := by
    refine .inl ⟨by rwa [halarms], by rwa [hstage], fun hc => ?_⟩
    rw [InStep, halarms, hretained hc]
    exact hin
  held h := .inl (by rwa [halarms] at h)

theorem guarded_of_core {i : CellIx} {s t : State} (c : Instr) (h : coreOf t = coreOf s) : Guarded i s c t :=
  guarded_of_same c (congrArg Core.alarms h) (fun _ => congrArg Core.retained h) (congrArg Core.stage h)

/-- What follows a change with the same core changes nothing of R110. -/
theorem Guarded.of_core {i : CellIx} {s t u : State} {c : Instr} (h : Guarded i s c t) (hu : coreOf u = coreOf t) : Guarded i s c u := by
  have halarms : u.alarms = t.alarms := congrArg Core.alarms hu
  have hretained : u.hold.contents.alarms = t.hold.contents.alarms := congrArg Core.retained hu
  have hstage : u.stage = t.stage := congrArg Core.stage hu
  have hcause : u.cause = t.cause := congrArg Core.cause hu
  refine ⟨fun h1 h2 h3 => ?_, fun h1 => ?_⟩
  · simpa only [InStep, halarms, hretained, hstage, hcause] using h.tripped h1 h2 h3
  · exact h.held (by rwa [← halarms])

theorem inStep_changeAlarm {i j : CellIx} {a : AlarmRecord} {s : State} (h : InStep i s) :
    InStep i (changeAlarm j a s) := by
  by_cases hsame : s.alarms.get j = a
  · subst hsame; rw [changeAlarm_same]; exact h
  · rw [changeAlarm_of_ne hsame, InStep]
    change (put s.hold.contents.alarms j (retainedEntry a)).get i = retainedEntry ((put s.alarms j a).get i)
    rw [put_get, put_get]
    split
    · rfl
    · exact h

/-- A change of a record's value guards the record where the new value does. -/
theorem guarded_changeAlarm {i j : CellIx} {a : AlarmRecord} {s v : State} (c : Instr) (hv : coreOf v = coreOf s)
    (htrip : i = j → Tripped (s.alarms.get i) → Tripped a ∨ Releases i s c)
    (hheld : i = j → HeldTrip a → HeldTrip (s.alarms.get i) ∨ Releases i s c) :
    Guarded i s c (changeAlarm j a v) := by
  have halarms : v.alarms = s.alarms := congrArg Core.alarms hv
  have hretained : v.hold.contents.alarms = s.hold.contents.alarms := congrArg Core.retained hv
  have hvstage : v.stage = s.stage := congrArg Core.stage hv
  have hget : (changeAlarm j a v).alarms.get i = if j = i then a else s.alarms.get i := by
    rw [changeAlarm_alarms, put_get, halarms]
  refine ⟨fun h hin hload => ?_, fun h => ?_⟩
  · have hstep : InStep i (changeAlarm j a v) := inStep_changeAlarm (by rw [InStep, halarms, hretained]; exact hin)
    have hstage : (changeAlarm j a v).stage ≠ .imageLoad := by rwa [changeAlarm_stage, hvstage]
    rw [hget]
    split
    · next hji =>
      obtain ha | hrel := htrip hji.symm h
      · exact .inl ⟨ha, hstage, fun _ => hstep⟩
      · exact .inr (.inl hrel)
    · exact .inl ⟨h, hstage, fun _ => hstep⟩
  · rw [hget] at h
    split at h
    · next hji => exact hheld hji.symm h
    · exact .inl h

/-- A hand-off neither ends a HIGHHIGH record nor acknowledges one (R105, R106). -/
theorem guarded_takeHandOff (i : CellIx) (c : Instr) (h : HandOff) {s v : State} (hv : coreOf v = coreOf s) :
    Guarded i s c (takeHandOff h v) := by
  have halarms : v.alarms = s.alarms := congrArg Core.alarms hv
  unfold takeHandOff
  rw [halarms]
  refine guarded_changeAlarm c hv ?_ ?_
  · rintro rfl ht
    exact .inl (tripped_moveRecord h ht)
  · rintro rfl ht
    exact .inl (heldTrip_of_moveRecord ht)

theorem guarded_computeCell (i j : CellIx) (k : Word) (c : Instr) (s : State) : Guarded i s c (computeCell k j s) :=
  guarded_takeHandOff i c _ ((coreOf_reportMismatch _ _ _).trans (coreOf_withWorking s _))

theorem guarded_cellComputationEvent (i : CellIx) (c : Instr) (s : State) : Guarded i s c (cellComputationEvent s) := by
  unfold cellComputationEvent
  split
  · exact guarded_of_core _ rfl
  · split
    · exact guarded_of_core _ rfl
    · exact (guarded_computeCell _ _ _ _ s).of_core (coreOf_advanceSweep _ _ _ _ _)

/-! ### ACKNOWLEDGE (R108 to R110) -/

theorem severityOf?_highHigh {b : Byte} (h : severityOf? b = some .highHigh) : b = 3#8 := by
  unfold severityOf? at h
  split at h
  · cases h
  · split at h
    · cases h
    · split at h
      · cases h
      · split at h
        · assumption
        · cases h

theorem heldTrip_of_moveAcknowledged {a : AlarmRecord} (h : HeldTrip (moveAcknowledged a)) : a.severity = .highHigh := by
  obtain ⟨hstate, hsev⟩ := h
  unfold moveAcknowledged at hstate hsev
  split at hstate <;> simp_all [AlarmRecord.idleRecord]

theorem guarded_acknowledge (i : CellIx) (p : Port) (s : State) :
    Guarded i s (.acknowledge p) (serve .acknowledge ownAcknowledge p s) := by
  obtain h | ⟨_, _, _, _, h⟩ | ⟨tag, payload, hasks, _, h⟩ := serve_cases .acknowledge ownAcknowledge p s
  · rw [h]; exact guarded_of_core _ rfl
  · rw [h]; exact guarded_of_core _ rfl
  · rw [h]
    refine Guarded.of_core ?_ (coreOf_answered _ _ _ _ _ _)
    obtain h | ⟨hi, lo, sev, named, j, hpayload, hnamed, hport, hcell, hsev, h⟩ := ownAcknowledge_cases p payload s
    · rw [h]; exact guarded_of_core _ rfl
    · rw [h]
      have hrel : i = j → (s.alarms.get i).severity = .highHigh → Releases i s (.acknowledge p) := by
        rintro rfl hhh
        have hname : named = .highHigh := hsev.trans hhh
        subst hname
        obtain rfl := hport rfl
        rw [hpayload, severityOf?_highHigh hnamed] at hasks
        exact ⟨rfl, tag, hi, lo, hasks, ((existingCell?_some _ _ _).1 hcell).1.symm⟩
      refine guarded_changeAlarm _ rfl (fun hij ht => .inr (hrel hij ht.2)) fun hij ht => ?_
      subst hij
      exact .inr (hrel rfl (heldTrip_of_moveAcknowledged ht))

/-! ### Restart sequences (R121, R123, R173) -/

theorem keepHold_alarms (s : State) : (keepHold s).alarms = restoredAlarms s.hold.contents.alarms := by
  simp [keepHold, reachRunning, driveAlerts]

theorem keepHold_retained (s : State) : (keepHold s).hold.contents.alarms = s.hold.contents.alarms := by
  simp [keepHold, reachRunning, driveAlerts, sealHold]

theorem keepHold_stage (s : State) : (keepHold s).stage = .running := by
  simp only [keepHold, reachRunning, driveAlerts]

theorem loseHold_alarms (s : State) : (loseHold s).alarms = Vector.replicate 640 AlarmRecord.idleRecord := by
  simp [loseHold, clearForCold, clearAlarms]

theorem loseHold_stage (s : State) : (loseHold s).stage = .imageLoad := by
  simp [loseHold, clearForCold, clearAlarms]

theorem loseHold_cause (s : State) : (loseHold s).cause = .holdLost := by
  simp [loseHold, clearForCold, clearAlarms]

theorem restoredAlarms_get (v : Vector (Option RetainedAlarm) 640) (i : CellIx) :
    (restoredAlarms v).get i = (v.get i).elim AlarmRecord.idleRecord restoredRecord := by
  simp only [restoredAlarms, get_map]
  cases v.get i <;> rfl

theorem not_heldTrip_restored (v : Vector (Option RetainedAlarm) 640) (i : CellIx) :
    ¬ HeldTrip ((restoredAlarms v).get i) := by
  rw [restoredAlarms_get]
  intro h
  cases hv : v.get i <;> rw [hv] at h <;> exact absurd h.1 (by simp [AlarmRecord.idleRecord, restoredRecord])

theorem not_heldTrip_idle : ¬ HeldTrip AlarmRecord.idleRecord := fun h => absurd h.1 (by simp [AlarmRecord.idleRecord])

theorem retainedEntry_of_tripped {a : AlarmRecord} (h : Tripped a) :
    retainedEntry a = some { severity := .highHigh, peak := a.peak } := by
  have hne : a.state ≠ .idle := by rcases h.1 with h | h <;> simp [h]
  rw [retainedEntry, if_neg hne, h.2]

/-- A retained entry in step restores a HIGHHIGH record as LINGERING at HIGHHIGH, still in step (R121). -/
theorem guarded_keepHold {i : CellIx} {s v : State} (c : Instr)
    (hretained : v.hold.contents.alarms = s.hold.contents.alarms) : Guarded i s c (keepHold v) where
  tripped htrip hin _ := by
    have hentry : v.hold.contents.alarms.get i = some { severity := .highHigh, peak := (s.alarms.get i).peak } := by
      rw [hretained, hin, retainedEntry_of_tripped htrip]
    have hrecord : (keepHold v).alarms.get i =
        restoredRecord { severity := .highHigh, peak := (s.alarms.get i).peak } := by
      rw [keepHold_alarms, restoredAlarms_get, hentry, Option.elim_some]
    refine .inl ⟨?_, by rw [keepHold_stage]; decide, fun _ => ?_⟩
    · rw [hrecord]; exact ⟨.inr rfl, rfl⟩
    · rw [InStep, keepHold_retained, hentry, hrecord]; rfl
  held h := absurd h (by rw [keepHold_alarms]; exact not_heldTrip_restored _ i)

theorem guarded_loseHold {i : CellIx} {s : State} (c : Instr) (v : State) : Guarded i s c (loseHold v) where
  tripped _ _ _ := .inr (.inr (.inr ⟨loseHold_stage v, .inl (loseHold_cause v)⟩))
  held h := absurd h (by rw [loseHold_alarms, get_replicate]; exact not_heldTrip_idle)

theorem cause_of_cold {k : RestartCause} (h : warmCause k = false) : k = .holdLost ∨ k = .powerOn := by
  cases k with
  | powerOn => exact .inr rfl
  | holdLost => exact .inl rfl
  | resetPin | brownout | request => cases h

/-- The end of RESET_HELD guards the records that RESET_HELD kept. -/
theorem guarded_passHeld {i : CellIx} {s v : State} (c : Instr) (halarms : v.alarms = s.alarms)
    (hretained : v.hold.contents.alarms = s.hold.contents.alarms) (hstage : v.stage = .resetHeld) :
    Guarded i s c (passHeld v) := by
  refine passHeld_cases v (fun _ => ⟨fun htrip hin _ => .inl ⟨by rwa [halarms], by rw [hstage]; decide, fun _ => ?_⟩,
    fun h => .inl (by rwa [halarms] at h)⟩) (fun _ _ hcold => ⟨fun _ _ _ => .inr (.inr (.inr ⟨rfl, cause_of_cold hcold⟩)),
    fun h => .inl (by rwa [← halarms])⟩) (fun _ _ => guarded_keepHold c hretained) fun _ _ => guarded_loseHold c v
  rw [InStep, halarms, hretained]
  exact hin

theorem guarded_beginWarm {i : CellIx} {s v : State} (c : Instr) (cause : RestartCause) (halarms : v.alarms = s.alarms)
    (hretained : v.hold.contents.alarms = s.hold.contents.alarms) : Guarded i s c (beginWarm cause v) :=
  guarded_passHeld c (v := abandon cause v) halarms hretained rfl

theorem guarded_powerOnEvent (i : CellIx) (s : State) : Guarded i s .powerOn (powerOnEvent s) where
  tripped _ _ _ := .inr (.inr (.inl rfl))
  held h := by
    refine absurd h (passHeld_cases (P := fun t => ¬ HeldTrip (t.alarms.get i)) _ (fun _ => ?_) (fun _ _ _ => ?_)
      (fun _ _ => by rw [keepHold_alarms]; exact not_heldTrip_restored _ i)
      fun _ _ => by rw [loseHold_alarms, get_replicate]; exact not_heldTrip_idle)
    all_goals simp only [clearForCold, clearAlarms, get_replicate]; exact not_heldTrip_idle

theorem guarded_resetPinEvent (i : CellIx) (c : Instr) (s : State) : Guarded i s c (resetPinEvent s) := by
  unfold resetPinEvent
  split
  · exact guarded_of_core _ rfl
  · exact guarded_beginWarm c _ rfl rfl

theorem guarded_brownoutEvent (i : CellIx) (c : Instr) (s : State) : Guarded i s c (brownoutEvent s) := by
  unfold brownoutEvent
  split
  · exact guarded_of_core _ rfl
  · exact guarded_beginWarm c _ rfl rfl

theorem guarded_resetHeldEndEvent (i : CellIx) (c : Instr) (l : HeldLevel) (s : State) :
    Guarded i s c (resetHeldEndEvent l s) := by
  unfold resetHeldEndEvent
  split
  · next hstage => exact guarded_passHeld c rfl rfl hstage
  · exact guarded_of_core _ rfl

/-- IMAGE_LOAD begins where a cold sequence has left no record, and moves none. -/
theorem guarded_imageLoadEvent (i : CellIx) (c : Instr) (s : State) : Guarded i s c (imageLoadEvent s) := by
  unfold imageLoadEvent
  split
  · next hstage =>
    refine ⟨fun _ _ hload => absurd hstage hload, fun h => .inl ?_⟩
    have hload : ∀ o v, (reachRunning (reportLoad o v)).alarms = v.alarms := fun o v =>
      congrArg Core.alarms (coreOf_reportLoad o v)
    rwa [hload] at h
  · exact guarded_of_core _ rfl

/-! ### The store and the transactions -/

theorem guarded_storeImage (i : CellIx) (c : Instr) (p : Port) (s : State) :
    Guarded i s c (serve .storeImage ownStoreImage p s) := by
  refine serve_keeps (P := Guarded i s c) (guarded_of_core c rfl) (fun _ _ _ _ h => h.of_core rfl) fun _ payload _ _ => ?_
  unfold ownStoreImage
  split
  · exact guarded_of_core c rfl
  · split
    · exact guarded_of_core c rfl
    · exact guarded_of_same c rfl (fun _ => rfl) rfl

theorem guarded_writeEndEvent (i : CellIx) (c : Instr) (misread : List (Nat × Byte)) (s : State) :
    Guarded i s c (writeEndEvent misread s) := by
  unfold writeEndEvent
  split
  · exact guarded_of_core c rfl
  · split
    · exact guarded_of_same c rfl (fun _ => rfl) rfl
    all_goals exact guarded_of_core c rfl

theorem guarded_storeCompletionEvent (i : CellIx) (c : Instr) (s : State) :
    Guarded i s c (storeCompletionEvent s) := by
  unfold storeCompletionEvent
  split
  · exact guarded_of_core c rfl
  · split
    · split
      · exact guarded_of_same c rfl (fun _ => rfl) rfl
      · exact guarded_of_core c (by rw [coreOf_notify, coreOf_handFault]; rfl)
    all_goals exact guarded_of_core c rfl

theorem guarded_takePoll (i : CellIx) (c : Instr) (p : Port) (n : Nat) (s : State) :
    Guarded i s c (takePoll p n s) :=
  takePoll_cases p n s (fun _ => guarded_of_core c rfl) fun _ => guarded_beginWarm c _ rfl rfl

/-- Every command keeps R110 for every cell. -/
theorem guarded_exec (i : CellIx) (s : State) (c : Instr) : ∃ t, exec c s = .next t ∧ Guarded i s c t := by
  refine exec_cases (P := Guarded i s) s (fun c t => guarded_of_core c) (guarded_acknowledge i · s)
    (fun p => guarded_storeImage i _ p s) (fun p bytes trailing begun => ?transaction) (fun p n begun => ?poll)
    (guarded_cellComputationEvent i _ s) (fun misread => guarded_writeEndEvent i _ misread s)
    (guarded_storeCompletionEvent i _ s) (guarded_powerOnEvent i s) (guarded_resetPinEvent i _ s)
    (guarded_brownoutEvent i _ s) (fun l => guarded_resetHeldEndEvent i _ l s) (fun ms => ?pending)
    (guarded_imageLoadEvent i _ s) (fun u => ?disturbance) c
  case transaction =>
    exact transact_cases p _ begun _ s (guarded_of_core _ rfl) (fun _ _ => transactionEvent_cases p bytes trailing s
      (guarded_of_core _ (coreOf_takeTransaction _ _ _ s)) (fun _ => guarded_of_core _ rfl)
      fun _ => guarded_beginWarm _ _ rfl rfl) (guarded_of_core _ rfl)
  case poll =>
    exact transact_cases p n begun _ s (guarded_of_core _ rfl) (fun _ _ => guarded_takePoll i _ p n s)
      (guarded_of_core _ rfl)
  case pending =>
    have hcore := coreOf_elapse ms s
    exact restartPendingExpiryEvent_cases _ (guarded_of_core _ hcore) fun _ =>
      guarded_beginWarm _ _ (congrArg Core.alarms hcore) (congrArg Core.retained hcore)
  case disturbance => exact guarded_of_same _ rfl (fun hc => absurd rfl (hc u)) rfl

/-- Settles O60: `guarded_exec` for the command at the front of the queue; time leaves the alarm unit. -/
theorem highHighNeedsTripPort : Obligations.HighHighNeedsTripPort := by
  intro s t i hstep
  unfold step at hstep
  split at hstep
  · cases hstep
    exact ⟨fun hstate hsev hin hload =>
        .inl ⟨by simpa using hstate, by simpa using hsev, by simpa using hload, fun _ => by simpa using hin⟩,
      fun hstate hsev => .inl ⟨by simpa using hstate, by simpa using hsev⟩⟩
  · next c rest hqueue =>
    obtain ⟨u, hu, hguard⟩ := guarded_exec i { s with pending := rest } c
    rw [hu] at hstep
    cases hstep
    have hhead : s.pending.head? = some c := by rw [hqueue]; rfl
    have hrel : Releases i { s with pending := rest } c → TripAcknowledges i s := by
      rintro ⟨rfl, hasks⟩
      exact ⟨hhead, hasks⟩
    refine ⟨fun hstate hsev hin hload => ?_, fun hstate hsev => (hguard.held ⟨hstate, hsev⟩).imp id hrel⟩
    obtain ⟨htrip, hstage, hretained⟩ | h | rfl | h := hguard.tripped ⟨hstate, hsev⟩ hin hload
    · refine .inl ⟨htrip.1, htrip.2, hstage, fun hno => hretained fun u hc => hno u ?_⟩
      rw [hhead, hc]
    · exact .inr (.inl (hrel h))
    · exact .inr (.inr (.inl hhead))
    · exact .inr (.inr (.inr h))

end Sys2Proof.Proofs.HighHigh

/-! PROOF. The samples of a batch's buffer: one per cell, in ascending cell index (R90, R92). -/
namespace Sys2Proof.Proofs.Samples
open Sys2Proof Sys2Proof.Machine

/-- A buffer in ascending cell index, one sample per cell. -/
def Ascending (buffer : List Sample) : Prop := buffer.Pairwise fun x y => x.cell.1 < y.cell.1

theorem mem_putSample {x y : Sample} {buffer : List Sample} (h : Ascending buffer) :
    y ∈ putSample x buffer ↔ y = x ∨ y ∈ buffer ∧ y.cell ≠ x.cell := by
  induction buffer with
  | nil => simp [putSample]
  | cons z rest ih =>
    obtain ⟨hz, hrest⟩ := List.pairwise_cons.1 h
    unfold putSample
    split
    · next hlt =>
      have hne : z.cell ≠ x.cell := fun e => Nat.ne_of_lt hlt (congrArg Fin.val e)
      rw [List.mem_cons, ih hrest, List.mem_cons]
      constructor
      · rintro (rfl | rfl | ⟨hy, hne'⟩)
        · exact .inr ⟨.inl rfl, hne⟩
        · exact .inl rfl
        · exact .inr ⟨.inr hy, hne'⟩
      · rintro (rfl | ⟨rfl | hy, hne'⟩)
        · exact .inr (.inl rfl)
        · exact .inl rfl
        · exact .inr (.inr ⟨hy, hne'⟩)
    · next hge =>
      have habove : ∀ y ∈ rest, y.cell ≠ x.cell := fun y hy e => by
        have := hz y hy
        have := congrArg Fin.val e
        omega
      split
      · next heq =>
        rw [List.mem_cons, List.mem_cons]
        constructor
        · rintro (rfl | hy)
          · exact .inl rfl
          · exact .inr ⟨.inr hy, habove y hy⟩
        · rintro (rfl | ⟨rfl | hy, hne⟩)
          · exact .inl rfl
          · exact absurd heq hne
          · exact .inr hy
      · next hne =>
        rw [List.mem_cons, List.mem_cons]
        constructor
        · rintro (rfl | rfl | hy)
          · exact .inl rfl
          · exact .inr ⟨.inl rfl, hne⟩
          · exact .inr ⟨.inr hy, habove y hy⟩
        · rintro (rfl | ⟨hy, _⟩)
          · exact .inl rfl
          · exact .inr hy

theorem ascending_putSample (x : Sample) {buffer : List Sample} (h : Ascending buffer) :
    Ascending (putSample x buffer) := by
  induction buffer with
  | nil => exact List.pairwise_singleton _ _
  | cons z rest ih =>
    obtain ⟨hz, hrest⟩ := List.pairwise_cons.1 h
    unfold putSample
    split
    · next hlt =>
      refine List.pairwise_cons.2 ⟨fun y hy => ?_, ih hrest⟩
      obtain rfl | ⟨hy, _⟩ := (mem_putSample hrest).1 hy
      · exact hlt
      · exact hz y hy
    · next hge =>
      split
      · next heq => exact List.pairwise_cons.2 ⟨fun y hy => heq ▸ hz y hy, hrest⟩
      · next hne =>
        have hlt : x.cell.1 < z.cell.1 :=
          Nat.lt_of_le_of_ne (Nat.le_of_not_lt hge) fun e => hne (Fin.ext e.symm)
        refine List.pairwise_cons.2 ⟨fun y hy => ?_, h⟩
        obtain rfl | hy := List.mem_cons.1 hy
        · exact hlt
        · exact Nat.lt_trans hlt (hz y hy)

theorem length_putSample_of_mem {x : Sample} {buffer : List Sample} (h : Ascending buffer)
    (hmem : ∃ y ∈ buffer, y.cell = x.cell) : (putSample x buffer).length = buffer.length := by
  induction buffer with
  | nil => obtain ⟨y, hy, _⟩ := hmem; cases hy
  | cons z rest ih =>
    obtain ⟨hz, hrest⟩ := List.pairwise_cons.1 h
    obtain ⟨y, hy, hcell⟩ := hmem
    unfold putSample
    split
    · next hlt =>
      obtain rfl | hy := List.mem_cons.1 hy
      · exact absurd (congrArg Fin.val hcell) (Nat.ne_of_lt hlt)
      · rw [List.length_cons, ih hrest ⟨y, hy, hcell⟩, List.length_cons]
    · next hge =>
      split
      · rfl
      · next hne =>
        obtain rfl | hy := List.mem_cons.1 hy
        · exact absurd hcell hne
        · have := hz y hy
          have := congrArg Fin.val hcell
          omega

theorem length_putSample_of_new {x : Sample} {buffer : List Sample} (hnew : ∀ y ∈ buffer, y.cell ≠ x.cell) :
    (putSample x buffer).length = buffer.length + 1 := by
  induction buffer with
  | nil => rfl
  | cons z rest ih =>
    unfold putSample
    split
    · rw [List.length_cons, ih fun y hy => hnew y (List.mem_cons_of_mem _ hy), List.length_cons]
    · rw [if_neg (hnew z List.mem_cons_self)]
      rfl

theorem buffered_iff {i : CellIx} {buffer : List Sample} : buffered i buffer = true ↔ ∃ x ∈ buffer, x.cell = i := by
  simp [buffered]

/-! ### The bounds of a batch (R90, R92) -/

theorem batchLegal_put {b : Batch} {x : Sample} (h : BatchLegal b)
    (hroom : buffered x.cell b.buffer = true ∨ b.buffer.length < 256) :
    BatchLegal { b with buffer := putSample x b.buffer } := by
  obtain ⟨howner, hlength, hascending⟩ := h
  refine ⟨howner, ?_, ascending_putSample x hascending⟩
  by_cases hmem : ∃ y ∈ b.buffer, y.cell = x.cell
  · exact Nat.le_trans (Nat.le_of_eq (length_putSample_of_mem hascending hmem)) hlength
  · have hroom : b.buffer.length < 256 := hroom.resolve_left fun h => hmem (buffered_iff.1 h)
    have hnew : ∀ y ∈ b.buffer, y.cell ≠ x.cell := fun y hy e => hmem ⟨y, hy, e⟩
    exact Nat.le_trans (Nat.le_of_eq (length_putSample_of_new hnew)) hroom

theorem batchLegal_handleSample (c : Configuration) {run : PutRun} (x : Nat × Int) (h : BatchLegal run.batch) :
    BatchLegal (handleSample c run x).batch := by
  unfold handleSample
  split
  · exact h
  · split
    · exact h
    · split
      · next hbuffered => exact batchLegal_put h (.inl hbuffered)
      · split
        · exact h
        · next hroom => exact batchLegal_put h (.inr (Nat.lt_of_not_le hroom))

theorem batchLegal_runPut (c : Configuration) {b : Batch} (xs : List (Nat × Int)) (h : BatchLegal b) :
    BatchLegal (runPut c b xs).batch :=
  List.foldlRecOn (motive := fun run => BatchLegal run.batch) xs (handleSample c) h
    fun _ hrun x _ => batchLegal_handleSample c x hrun

end Sys2Proof.Proofs.Samples

/-! PROOF. The units of the machine stay in the states that the spec admits. -/
namespace Sys2Proof.Proofs.Units
open Sys2Proof Sys2Proof.Machine Sys2Proof.Proofs.Frames Sys2Proof.Proofs.Sequences Sys2Proof.Proofs.AlarmUnit
open Sys2Proof.Proofs.Samples

/-- Every unit is in a state that the spec admits, whatever the stage. -/
structure Legal (s : State) : Prop where
  timebase : TimebaseLegal s.timebase
  groups : ∀ g : GroupIx, GroupLegal (s.groups.get g)
  passes : ∀ p : PassIx, PassLegal (s.passes.get p)
  faults : ∀ n : Fin 15, FaultLegal (s.faults.get n)
  edit : ∀ e, s.edit = some e → ClaimLegal e
  batch : ∀ b, s.batch = some b → BatchLegal b
  sweep : ∀ run, s.sweep = some run → run.todo ≠ []

/-- RESET_HELD is where an input level is low. -/
def Levels (s : State) : Prop := s.stage = .resetHeld ↔ s.pins.resetLow = true ∨ s.pins.coreLow = true

theorem unitsLegal_iff {s : State} : UnitsLegal s ↔ Legal s ∧ Levels s ∧ (s.stage ≠ .running → Quiet s) := by
  constructor
  · rintro ⟨h1, h2, h3, h4, h5, h6, h7, h8, h9⟩
    exact ⟨⟨h1, h2, h3, h4, h5, h6, h7⟩, h8, h9⟩
  · rintro ⟨⟨h1, h2, h3, h4, h5, h6, h7⟩, h8, h9⟩
    exact ⟨h1, h2, h3, h4, h5, h6, h7, h8, h9⟩

/-- What an entry is written with and what all the others are, every entry is. -/
theorem forall_put {α : Type} {n : Nat} {P : α → Prop} {v : Vector α n} {i : Fin n} {x : α}
    (h : ∀ j : Fin n, P (v.get j)) (hx : P x) (j : Fin n) : P ((put v i x).get j) := by
  rw [put_get]
  split
  · exact hx
  · exact h j

/-! ### The shared operations -/

theorem faultLegal_takeFault (kind : FaultKind) (stamp : Word) (detail : Detail) (r : FaultRecord) :
    FaultLegal (takeFault kind stamp detail r) := by
  unfold takeFault
  split
  · exact ⟨by simp [FaultRecord.empty], by simp⟩
  · next hcount =>
    refine ⟨⟨fun h0 => ?_, fun he => ?_⟩, ?_⟩
    · dsimp only at h0; split at h0 <;> omega
    · have h0 := congrArg FaultRecord.count he
      simp only [FaultRecord.empty] at h0
      split at h0 <;> omega
    · dsimp only; split <;> omega

theorem faultLegal_empty : FaultLegal FaultRecord.empty := ⟨by simp [FaultRecord.empty], by decide⟩

theorem Legal.handFault {s : State} (h : Legal s) (src : FaultSource) (kind : FaultKind) (detail : Detail) :
    Legal (handFault src kind detail s) where
  timebase := by simpa using h.timebase
  groups := by simpa using h.groups
  passes := by simpa using h.passes
  faults := by
    rw [handFault_faults]
    exact forall_put h.faults (faultLegal_takeFault _ _ _ _)
  edit := by simpa using h.edit
  batch := by simpa using h.batch
  sweep := by simpa using h.sweep

theorem Legal.notify {s : State} (h : Legal s) (p : Port) (n : Notice) : Legal (notify p n s) := { h with }

theorem Legal.withTimebase {s : State} (h : Legal s) {t : Timebase} (ht : TimebaseLegal t) :
    Legal { s with timebase := t } := { h with timebase := ht }

theorem Legal.notifyAll {s : State} (h : Legal s) (n : Notice) : Legal (notifyAll n s) := { h with }

theorem Legal.retain {s : State} (h : Legal s) (f : HoldContents → HoldContents) : Legal (retain f s) := { h with }

theorem Legal.changeTimebase {s : State} (h : Legal s) {t : Timebase} (ht : TimebaseLegal t) :
    Legal (changeTimebase t s) := (h.withTimebase (t := { t with epoch := t.epoch + 1#16 }) ht).notifyAll _

theorem Legal.setGroup {s : State} (h : Legal s) (g : GroupIx) {x : CaptureGroup} (hx : GroupLegal x) :
    Legal (s.setGroup g x) := { h with groups := forall_put h.groups hx }

theorem Legal.withPasses {s : State} (h : Legal s) {v : Vector PassService 8} (hv : ∀ p, PassLegal (v.get p)) :
    Legal { s with passes := v } := { h with passes := hv }

theorem Legal.setEdit {s : State} (h : Legal s) {e : Option EditClaim} (he : ∀ c, e = some c → ClaimLegal c) :
    Legal (s.setEdit e) := { h with edit := he }

theorem Legal.withBatch {s : State} (h : Legal s) {b : Option Batch} (hb : ∀ c, b = some c → BatchLegal c) :
    Legal { s with batch := b } := { h with batch := hb }

theorem Legal.withWorking {s : State} (h : Legal s) (w : Vector Working 640) : Legal { s with working := w } :=
  { h with }

theorem Legal.withSweep {s : State} (h : Legal s) {x : Option SweepRun} (hx : ∀ run, x = some run → run.todo ≠ []) :
    Legal { s with sweep := x } := { h with sweep := hx }

theorem Legal.changeAlarm {s : State} (h : Legal s) (i : CellIx) (a : AlarmRecord) : Legal (changeAlarm i a s) := by
  unfold Machine.changeAlarm
  split
  · exact h
  · exact Legal.notify (Legal.notify (Legal.retain
      { h with timebase := by simpa using h.timebase, groups := by simpa using h.groups
               passes := by simpa using h.passes, faults := by simpa using h.faults, edit := by simpa using h.edit
               batch := by simpa using h.batch, sweep := by simpa using h.sweep } _) _ _) _ _

/-! ### Time (R59) -/

theorem timebaseLegal_elapse (ms : Nat) {t : Timebase} (h : TimebaseLegal t) : TimebaseLegal (elapseTimebase ms t) := by
  obtain ⟨hproving, hlock, hretry, hbreak⟩ := h
  refine ⟨?_, ?_, ?_, hbreak⟩ <;> simpa only [elapseTimebase, Option.isSome_map]

theorem groupLegal_elapse (ms : Nat) {x : CaptureGroup} (h : GroupLegal x) : GroupLegal (elapseGroup ms x) := by
  obtain ⟨hparked, hmeasures, hcursor⟩ := h
  exact ⟨hparked, by simpa only [elapseGroup, Option.map_eq_none_iff], hcursor⟩

theorem passLegal_elapse (ms : Nat) {x : PassService} (h : PassLegal x) : PassLegal (elapsePass ms x) := by
  refine ⟨by simpa only [elapsePass, Option.isSome_map] using h.1, fun t ht => ?_⟩
  obtain ⟨k, _, rfl⟩ := Option.map_eq_some_iff.1 ht
  exact Nat.min_le_right _ _

theorem Legal.elapse {s : State} (h : Legal s) (ms : Nat) : Legal (elapse ms s) := by
  unfold Machine.elapse
  split
  · exact { h with timebase := timebaseLegal_elapse ms h.timebase
                   groups := fun g => by rw [get_map]; exact groupLegal_elapse ms (h.groups g)
                   passes := fun p => by rw [get_map]; exact passLegal_elapse ms (h.passes p) }
  · exact h

/-! ### The timebase unit (R45 to R57) -/

theorem proving_none {t : Timebase} (h : TimebaseLegal t) (hstate : t.state ≠ .holdover) : t.proving = none :=
  Option.not_isSome_iff_eq_none.1 fun hp => hstate (h.1 hp)

theorem lock_none {t : Timebase} (h : TimebaseLegal t) (hstate : t.state ≠ .acquiring) : t.lock = none :=
  Option.not_isSome_iff_eq_none.1 fun hl => hstate (h.2.1.1 hl)

theorem retry_none {t : Timebase} (h : TimebaseLegal t) (hstate : t.state ≠ .bypass) : t.retry = none :=
  Option.not_isSome_iff_eq_none.1 fun hr => hstate (h.2.2.1 hr)

theorem breakSeen_false {t : Timebase} (h : TimebaseLegal t) (hstate : t.state ≠ .locked) : t.breakSeen = false :=
  Bool.eq_false_iff.2 fun hb => hstate (h.2.2.2 hb)

theorem Legal.goBypass {s : State} (h : Legal s) : Legal (goBypass s) :=
  h.changeTimebase ⟨by simp, by simp, by simp, by simp⟩

theorem Legal.startAcquisition {s : State} (h : Legal s) (hbypass : s.timebase.state = .bypass) :
    Legal (startAcquisition s) := by
  have hproving := proving_none h.timebase (by simp [hbypass])
  have hbreak := breakSeen_false h.timebase (by simp [hbypass])
  exact h.changeTimebase ⟨by simp [hproving], by simp, by simp, by simp [hbreak]⟩

theorem Legal.crystalFailure {s : State} (h : Legal s) : Legal (crystalFailure s) :=
  (h.changeTimebase ⟨by simp, by simp, by simp, by simp⟩).handFault _ _ _

theorem Legal.changeBreakSeen {s : State} (h : Legal s) (b : Bool) (hlocked : s.timebase.state = .locked) :
    Legal (changeBreakSeen b s) := by
  obtain ⟨hproving, hlock, hretry, _⟩ := h.timebase
  exact h.withTimebase ⟨hproving, hlock, hretry, fun _ => hlocked⟩

theorem Legal.crystalGapEvent {s : State} (h : Legal s) : Legal (crystalGapEvent s) := by
  unfold Machine.crystalGapEvent
  split
  · split
    · obtain ⟨_, hlock, hretry, hbreak⟩ := h.timebase
      exact h.withTimebase ⟨by simp, hlock, hretry, hbreak⟩
    all_goals exact h.crystalFailure
  · exact h

theorem Legal.crystalEdgeEvent {s : State} (h : Legal s) : Legal (crystalEdgeEvent s) := by
  obtain ⟨hproving, hlock, hretry, hbreak⟩ := h.timebase
  unfold Machine.crystalEdgeEvent
  split
  · split
    · next hstate _ => exact h.withTimebase ⟨fun _ => hstate, hlock, hretry, hbreak⟩
    · exact h.withTimebase ⟨hproving, hlock, hretry, hbreak⟩
  · exact h

theorem Legal.crystalRestoreEvent {s : State} (h : Legal s) : Legal (crystalRestoreEvent s) := by
  unfold Machine.crystalRestoreEvent
  split
  · split
    · exact h.goBypass.startAcquisition rfl
    · exact h.goBypass
  · exact h

theorem Legal.lockReportEvent {s : State} (h : Legal s) : Legal (lockReportEvent s) := by
  unfold Machine.lockReportEvent
  split
  · split
    · exact h
    · exact h
    · next hstate =>
      have hproving := proving_none h.timebase (by simp [hstate])
      have hretry := retry_none h.timebase (by simp [hstate])
      exact h.changeTimebase ⟨by simp [hproving], by simp, by simp [hretry], by simp⟩
    · next hstate =>
      split
      · exact h.changeBreakSeen false hstate
      · exact h
  · exact h

theorem Legal.lossOfLockEvent {s : State} (h : Legal s) : Legal (lossOfLockEvent s) := by
  unfold Machine.lossOfLockEvent
  split
  · split
    · exact h
    · exact h
    · exact h
    · next hstate =>
      split
      · exact h
      · next hbreak =>
        split
        · have hproving := proving_none h.timebase (by simp [hstate])
          have hretry := retry_none h.timebase (by simp [hstate])
          refine Legal.handFault (h.changeTimebase ⟨by simp [hproving], by simp, by simp [hretry], ?_⟩) _ _ _
          exact fun hb => absurd hb hbreak
        · exact (h.changeBreakSeen true hstate).handFault _ _ _
  · exact h

theorem Legal.lockTimeoutEvent {s : State} (h : Legal s) : Legal (lockTimeoutEvent s) := by
  unfold Machine.lockTimeoutEvent
  split
  · next hcond =>
    have hproving := proving_none h.timebase (by simp [hcond.2.1])
    have hbreak := breakSeen_false h.timebase (by simp [hcond.2.1])
    exact Legal.handFault (h.changeTimebase ⟨by simp [hproving], by simp, by simp, by simp [hbreak]⟩) _ _ _
  · exact h

theorem Legal.retryExpiryEvent {s : State} (h : Legal s) : Legal (retryExpiryEvent s) := by
  unfold Machine.retryExpiryEvent
  split
  · next hcond => exact h.startAcquisition hcond.2.1
  · exact h

theorem Legal.takeUpEnable {s : State} (h : Legal s) (before after : Bool) : Legal (takeUpEnable before after s) := by
  unfold Machine.takeUpEnable
  split
  · exact h
  · split
    · split
      · next hstate => exact h.startAcquisition hstate
      all_goals exact h
    · split
      · exact h
      · obtain ⟨hproving, hlock, _, hbreak⟩ := h.timebase
        exact h.withTimebase ⟨hproving, hlock, by simp, hbreak⟩
      all_goals exact h.goBypass

/-! ### The capture groups (R22 to R29, R41) -/

theorem groupLegal_idle : GroupLegal CaptureGroup.idle := ⟨by simp [CaptureGroup.idle], by simp [CaptureGroup.idle],
  by simp [CaptureGroup.idle]⟩

theorem groupLegal_takeUp (c : Configuration) (g : GroupIx) (x : CaptureGroup) : GroupLegal (takeUp c g x) := by
  unfold takeUp
  split
  · exact groupLegal_idle
  · exact ⟨by simp, by simp, by simp⟩

/-- A group with a scan list goes on measuring: its list and parking stay. -/
theorem groupLegal_withMeasurement {x : CaptureGroup} (h : GroupLegal x) (hlist : x.scanList ≠ []) (m : Measurement) :
    GroupLegal { x with measurement := some m } :=
  ⟨h.1, by simp [hlist], h.2.2⟩

theorem scanList_ne_nil {x : CaptureGroup} {m : Measurement} (h : GroupLegal x) (hm : x.measurement = some m) :
    x.scanList ≠ [] := fun hnil => by simp [h.2.1.2 hnil] at hm

theorem nextCursor_lt {x : CaptureGroup} (hlist : x.scanList ≠ []) : nextCursor x < x.scanList.length := by
  unfold nextCursor
  split
  · assumption
  · exact List.length_pos_iff.2 hlist

theorem groupLegal_moveOn (c : Configuration) (g : GroupIx) {x : CaptureGroup} (h : GroupLegal x)
    (hlist : x.scanList ≠ []) : GroupLegal (moveOn c g x) := by
  refine ⟨h.1, ?_, fun _ => nextCursor_lt hlist⟩
  simp [moveOn, hlist, nextCursor_lt hlist]

theorem Legal.updateGroup {s : State} (h : Legal s) {f : Configuration → GroupIx → CaptureGroup → CaptureGroup}
    {g : GroupIx} (hf : GroupLegal (f s.active.config g (s.groups.get g))) : Legal (updateGroup f g s) :=
  h.setGroup g hf

theorem Legal.storeSkin {s : State} (h : Legal s) (g : GroupIx) (l : LineIx) (r : Reading) :
    Legal (storeSkin g l r s) := by
  unfold Machine.storeSkin
  have hput : Legal { s with readings := put s.readings l r } := { h with }
  dsimp only
  split
  · exact hput.handFault _ _ _
  · exact hput

theorem Legal.storeReference {s : State} (h : Legal s) (g : GroupIx) (r : Reading) :
    Legal (storeReference g r s) := by
  unfold Machine.storeReference
  have hput : Legal { s with readings := put s.readings (lineOf g 0) r } := { h with }
  have hgroup := hput.setGroup g (x := { s.groups.get g with refStatus := judgedReference r, lastRef := referenceOf r })
    (h.groups g)
  dsimp only
  split
  · exact hgroup.handFault _ _ _
  · exact hgroup

theorem Legal.storeResult {s : State} (h : Legal s) (g : GroupIx) (m : Measurement) (x : Gathered) :
    Legal (storeResult g m x s) := by
  unfold Machine.storeResult
  split
  · exact h.storeReference _ _
  · exact h.storeSkin _ _ _

@[simp] theorem storeSkin_groups (g : GroupIx) (l : LineIx) (r : Reading) (s : State) :
    (storeSkin g l r s).groups = s.groups := by
  unfold storeSkin
  dsimp only
  split
  · simp
  · rfl

theorem storeReference_scanList (g : GroupIx) (r : Reading) (s : State) :
    ((storeReference g r s).groups.get g).scanList = (s.groups.get g).scanList := by
  unfold storeReference
  dsimp only
  split <;> simp

theorem storeResult_scanList (g : GroupIx) (m : Measurement) (x : Gathered) (s : State) :
    ((storeResult g m x s).groups.get g).scanList = (s.groups.get g).scanList := by
  unfold storeResult
  split
  · exact storeReference_scanList _ _ _
  · rw [storeSkin_groups]

theorem Legal.post {s : State} (h : Legal s) {g : GroupIx} (hlist : (s.groups.get g).scanList ≠ []) (m : Measurement)
    (epoch : Half) (x : Gathered) : Legal (post g m epoch x s) := by
  unfold Machine.post
  split
  · unfold postApplied
    split
    · exact (h.storeResult g m x).updateGroup (groupLegal_takeUp _ _ _)
    · exact h.updateGroup (groupLegal_takeUp _ _ _)
  · unfold postPlain
    split
    · have hstored := h.storeResult g m x
      exact hstored.updateGroup (groupLegal_moveOn _ _ (hstored.groups g) (by rwa [storeResult_scanList]))
    · split
      · exact h.updateGroup (groupLegal_withMeasurement (h.groups g) hlist _)
      · have hfault := h.handFault (.group g) .abortRepeat (.line (lineOf g m.slot))
        exact hfault.updateGroup (groupLegal_moveOn _ _ (hfault.groups g) (by simpa using hlist))

theorem inFlight_some {g : GroupIx} {m : Measurement} {s : State} (h : inFlight g s = some m) :
    s.stage = .running ∧ (s.groups.get g).measurement = some m := by
  unfold inFlight at h
  split at h
  · next hrunning => exact ⟨by simpa [State.running] using hrunning, h⟩
  · cases h

/-- A measurement in flight has its group's scan list. -/
theorem Legal.scanList_of_inFlight {s : State} (h : Legal s) {g : GroupIx} {m : Measurement}
    (hm : inFlight g s = some m) : (s.groups.get g).scanList ≠ [] :=
  scanList_ne_nil (h.groups g) (inFlight_some hm).2

theorem Legal.toStage {s : State} (h : Legal s) {g : GroupIx} {m : Measurement} (hm : inFlight g s = some m)
    (stage : MeasureStage) : Legal (toStage g m stage s) :=
  h.setGroup g (groupLegal_withMeasurement (h.groups g) (h.scanList_of_inFlight hm) _)

theorem Legal.settleEndEvent {s : State} (h : Legal s) (g : GroupIx) : Legal (settleEndEvent g s) := by
  unfold Machine.settleEndEvent
  split
  · exact h
  · next hm =>
    split
    · exact h.toStage hm _
    · exact h

theorem Legal.armEdgeEvent {s : State} (h : Legal s) (g : GroupIx) : Legal (armEdgeEvent g s) := by
  unfold Machine.armEdgeEvent
  split
  · exact h
  · next hm =>
    split
    · exact h.toStage hm _
    · exact h

theorem Legal.armTimeoutEvent {s : State} (h : Legal s) (g : GroupIx) : Legal (armTimeoutEvent g s) := by
  unfold Machine.armTimeoutEvent
  split
  · exact h
  · next hm =>
    split
    · exact h.post (h.scanList_of_inFlight hm) _ _ _
    · exact h

theorem Legal.cycleCloseEvent {s : State} (h : Legal s) (g : GroupIx) (n : Nat) : Legal (cycleCloseEvent g n s) := by
  unfold Machine.cycleCloseEvent
  split
  · exact h
  · next hm =>
    split
    · split
      · exact h.toStage hm _
      · exact h
    all_goals exact h

theorem Legal.countEndEvent {s : State} (h : Legal s) (g : GroupIx) (n : Nat) : Legal (countEndEvent g n s) := by
  unfold Machine.countEndEvent
  split
  · exact h
  · next hm =>
    split
    · split
      · exact h.toStage hm _
      · exact h
    all_goals exact h

theorem Legal.countTimeoutEvent {s : State} (h : Legal s) (g : GroupIx) : Legal (countTimeoutEvent g s) := by
  unfold Machine.countTimeoutEvent
  split
  · exact h
  · next hm =>
    split
    · split
      · exact h.post (h.scanList_of_inFlight hm) _ _ _
      · exact h
    all_goals exact h

theorem Legal.fallingEdgeEvent {s : State} (h : Legal s) (g : GroupIx) (n : Nat) :
    Legal (fallingEdgeEvent g n s) := by
  unfold Machine.fallingEdgeEvent
  split
  · exact h
  · next hm =>
    split
    · split
      · exact h.setGroup g (groupLegal_withMeasurement (h.groups g) (h.scanList_of_inFlight hm) _)
      · exact h
    all_goals exact h

theorem Legal.widthEndEvent {s : State} (h : Legal s) (g : GroupIx) : Legal (widthEndEvent g s) := by
  unfold Machine.widthEndEvent
  split
  · exact h
  · next hm =>
    split
    · split
      · exact h.post (h.scanList_of_inFlight hm) _ _ _
      · exact h
    all_goals exact h

theorem Legal.widthTimeoutEvent {s : State} (h : Legal s) (g : GroupIx) : Legal (widthTimeoutEvent g s) := by
  unfold Machine.widthTimeoutEvent
  split
  · exact h
  · next hm =>
    split
    · split
      · exact h.post (h.scanList_of_inFlight hm) _ _ _
      · exact h
    all_goals exact h

theorem Legal.readingRetireEvent {s : State} (h : Legal s) (l : LineIx) : Legal (readingRetireEvent l s) := by
  unfold Machine.readingRetireEvent
  split
  · exact { h with }
  · exact h

/-! ### The scan unit, the claim and the pass states (R90, R130, R133) -/

theorem Legal.batchExpiryEvent {s : State} (h : Legal s) : Legal (batchExpiryEvent s) := by
  unfold Machine.batchExpiryEvent
  split
  · exact h
  · split
    · exact Legal.notify (Legal.handFault (h.withBatch (b := none) (by simp)) _ _ _) _ _
    · exact h

theorem Legal.scanEntryRetireEvent {s : State} (h : Legal s) (i : CellIx) : Legal (scanEntryRetireEvent i s) := by
  unfold Machine.scanEntryRetireEvent
  split
  · exact h
  · split
    · exact { h with }
    · exact h

theorem Legal.claimExpiryEvent {s : State} (h : Legal s) : Legal (claimExpiryEvent s) := by
  unfold Machine.claimExpiryEvent
  split
  · exact h
  · split
    · exact h
    · split
      · exact Legal.notify (h.setEdit (by simp)) _ _
      · exact h

theorem Legal.setPass {s : State} (h : Legal s) (p : PassIx) {x : PassService} (hx : PassLegal x) :
    Legal (setPass p x s) := by
  unfold Machine.setPass
  have hput := h.withPasses (forall_put (i := p) h.passes hx)
  dsimp only
  split
  · exact hput
  · exact hput.retain _

theorem passLegal_enteredPass (target : PassState) : PassLegal (enteredPass target) := by
  cases target <;> simp [enteredPass, PassLegal]

theorem passLegal_online : PassLegal PassService.online := by simp [PassService.online, PassLegal]

theorem Legal.settlePass {s : State} (h : Legal s) (p : PassIx) : Legal (settlePass s p) := by
  unfold Machine.settlePass
  dsimp only
  split
  · split
    · exact h
    · split
      · exact h.setPass p (h.passes p)
      · exact Legal.withWorking (h.setPass p (passLegal_enteredPass _)) _
  · exact h.setPass p passLegal_online

theorem Legal.settleAll {s : State} (h : Legal s) : Legal (settleAll s) := by
  unfold Machine.settleAll
  exact List.foldlRecOn (motive := Legal) _ _ h fun _ hs p _ => hs.settlePass p

theorem Legal.compareOverdue {s : State} (h : Legal s) (p : PassIx) : Legal (compareOverdue s p) := by
  rw [compareOverdue_eq]
  split
  · exact Legal.notify (h.withPasses
      (forall_put (x := { s.passes.get p with overdueNotified := true }) h.passes (h.passes p))) _ _
  · exact h

theorem Legal.spallOverdueEvent {s : State} (h : Legal s) (p : PassIx) : Legal (spallOverdueEvent p s) := by
  unfold Machine.spallOverdueEvent
  split
  · exact h.compareOverdue p
  · exact h

theorem Legal.takeUpOverdue {s : State} (h : Legal s) (before after : Configuration) :
    Legal (takeUpOverdue before after s) := by
  unfold Machine.takeUpOverdue
  split
  · exact h
  · exact List.foldlRecOn (motive := Legal) _ _ h fun _ hs p _ => hs.compareOverdue p

/-! ### The sweep (R64, R145 to R148) -/

theorem groupLegal_applyToGroup (c : Configuration) (g : GroupIx) {x : CaptureGroup} (h : GroupLegal x) :
    GroupLegal (applyToGroup c g x) := by
  unfold applyToGroup
  split
  · exact groupLegal_takeUp c g x
  · split <;> exact h

theorem Legal.takeUpGroups {s : State} (h : Legal s) (after : Configuration) : Legal (takeUpGroups after s) :=
  { h with groups := fun g => (get_ofFn _ g).symm ▸ groupLegal_applyToGroup after g (h.groups g) }

theorem Legal.clearVanished {s : State} (h : Legal s) (before after : Configuration) :
    Legal (clearVanished before after s) where
  timebase := h.timebase
  groups := h.groups
  passes := h.passes
  faults := h.faults
  edit := h.edit
  batch b hb := by
    obtain ⟨a, ha, rfl⟩ := Option.map_eq_some_iff.1 hb
    obtain ⟨howner, hlength, hascending⟩ := h.batch a ha
    exact ⟨howner, Nat.le_trans (List.length_filter_le _ _) hlength, hascending.filter _⟩
  sweep := h.sweep

theorem Legal.takeUpMap {s : State} (h : Legal s) (before after : Configuration) :
    Legal (takeUpMap before after s) := { h with }

theorem Legal.makeActive {s : State} (h : Legal s) (staged : Configuration) : Legal (makeActive staged s) := by
  have hactive : Legal { s with active := committed s.active staged, edit := none } := { h with edit := by simp }
  exact Legal.notifyAll (hactive.retain _) _

theorem Legal.applyCommit {s : State} (h : Legal s) (staged : Configuration) : Legal (applyCommit staged s) :=
  Legal.takeUpOverdue (Legal.takeUpMap (Legal.clearVanished (Legal.takeUpGroups (Legal.takeUpEnable
    (h.makeActive staged) _ _) _) _ _) _ _) _ _

theorem Legal.considerCommit {s : State} (h : Legal s) : Legal (considerCommit s) := by
  unfold Machine.considerCommit
  split
  · exact h
  · split
    · exact h
    · split
      · exact Legal.notify (h.setEdit (by simp)) _ _
      · exact h.applyCommit _

theorem Legal.beginProcessing {s : State} (h : Legal s) : Legal (beginProcessing s) := by
  unfold Machine.beginProcessing
  split
  · exact { h with }
  · exact h.withSweep (by rintro _ ⟨⟩; simp)

theorem Legal.nextInterval {s : State} (h : Legal s) : Legal (nextInterval s) := { h with }

theorem Legal.sweepBoundaryEvent {s : State} (h : Legal s) : Legal (sweepBoundaryEvent s) := by
  unfold Machine.sweepBoundaryEvent
  split
  · split
    · exact h.nextInterval
    · exact h.considerCommit.settleAll.nextInterval.beginProcessing
  · exact h

theorem Legal.reportMismatch {s : State} (h : Legal s) (found : Bool) (i : CellIx) :
    Legal (reportMismatch found i s) := by
  unfold Machine.reportMismatch
  split
  · exact h.handFault _ _ _
  · exact h

theorem Legal.computeCell {s : State} (h : Legal s) (k : Word) (i : CellIx) : Legal (computeCell k i s) :=
  ((h.withWorking _).reportMismatch _ _).changeAlarm _ _

theorem Legal.advanceSweep {s : State} (h : Legal s) (number : Word) (i : CellIx) (rest : List CellIx)
    (copy : Vector CellRecord 80) : Legal (advanceSweep number i rest copy s) := by
  unfold Machine.advanceSweep
  split
  · exact { h with sweep := by simp }
  · split
    · exact h.withSweep (by rintro _ ⟨⟩; simp)
    · exact { h with sweep := by rintro _ ⟨⟩; simp }

theorem Legal.cellComputationEvent {s : State} (h : Legal s) : Legal (cellComputationEvent s) := by
  unfold Machine.cellComputationEvent
  split
  · exact h
  · split
    · exact h
    · exact (h.computeCell _ _).advanceSweep _ _ _ _

end Sys2Proof.Proofs.Units

/-! PROOF. Every step keeps the units legal: requests, transactions, what stops outside RUNNING, and the restart
sequences. -/
namespace Sys2Proof.Proofs.Units
open Sys2Proof Sys2Proof.Machine Sys2Proof.Proofs.Frames Sys2Proof.Proofs.Sequences Sys2Proof.Proofs.AlarmUnit
open Sys2Proof.Proofs.Samples

/-! ### Requests (R155) -/

theorem admitted_of_admission {k : RequestKind} {p : Port} {n : Nat} (h : admission k p n = none) :
    admitted k p = true := by
  cases hadmitted : admitted k p with
  | true => rfl
  | false => simp [admission, hadmitted] at h

theorem heldBy_eq_some {p : Port} {s : State} {e : EditClaim} :
    heldBy p s = some e ↔ s.edit = some e ∧ e.holder = p := by
  unfold heldBy
  cases hedit : s.edit with
  | none => simp
  | some c =>
    by_cases hp : c.holder = p
    · simp only [hp, if_true, Option.some.injEq]
      exact ⟨fun h => ⟨h, h ▸ hp⟩, fun h => h.1⟩
    · simp only [hp, if_false, Option.some.injEq]
      exact ⟨fun h => (by cases h), fun ⟨h, hh⟩ => absurd hh (h ▸ hp)⟩

theorem claimLegal_restartTimer (now : Word) {e : EditClaim} (h : ClaimLegal e) : ClaimLegal (restartTimer now e) := by
  unfold restartTimer
  split
  · exact h
  · next hpending => exact ⟨h.1, by simp [hpending]⟩

/-- The holder's claim with its timer restarted stands in a legal state. -/
theorem Legal.setRestarted {s : State} (h : Legal s) {p : Port} {e : EditClaim} (he : heldBy p s = some e) :
    Legal (s.setEdit (some (restartTimer s.timebase.partTime e))) :=
  h.setEdit (by rintro _ ⟨⟩; exact claimLegal_restartTimer _ (h.edit e (heldBy_eq_some.1 he).1))

theorem Legal.ownClaim {s : State} (h : Legal s) {p : Port} (hp : p ≠ .trip) (payload : List Byte) :
    Legal (ownClaim p payload s).1 := by
  unfold Machine.ownClaim
  split
  · exact h.setEdit (by rintro _ ⟨⟩; exact ⟨hp, by simp⟩)
  · split <;> exact h

theorem Legal.ownRelease {s : State} (h : Legal s) (p : Port) (payload : List Byte) :
    Legal (ownRelease p payload s).1 := by
  unfold Machine.ownRelease
  split
  · exact h
  · split
    · exact h
    · exact h.setEdit (by simp)

theorem Legal.stage {s : State} (h : Legal s) (write : List Byte → Configuration → Option Configuration) (p : Port)
    (payload : List Byte) : Legal (stage write p payload s).1 := by
  unfold Machine.stage
  split
  · exact h
  · next e he =>
    split
    · exact h
    · split
      · exact h.setRestarted he
      · have hlegal := claimLegal_restartTimer s.timebase.partTime (h.edit e (heldBy_eq_some.1 he).1)
        exact h.setEdit (by rintro _ ⟨⟩; exact hlegal)

theorem Legal.ownCommit {s : State} (h : Legal s) (p : Port) (payload : List Byte) :
    Legal (ownCommit p payload s).1 := by
  unfold Machine.ownCommit
  split
  · exact h
  · next e he =>
    split
    · exact h
    · split
      · exact h.setRestarted he
      · have hport := (h.edit e (heldBy_eq_some.1 he).1).1
        exact h.setEdit (by rintro _ ⟨⟩; exact ⟨hport, by simp⟩)

theorem Legal.ownGetConfig {s : State} (h : Legal s) (p : Port) (payload : List Byte) :
    Legal (ownGetConfig p payload s).1 := by
  unfold Machine.ownGetConfig
  split
  · split
    · exact h
    · split
      · unfold getStaged
        split
        · exact h
        · next he => exact h.setRestarted he
      · exact h
  · exact h

theorem Legal.ownScanOpen {s : State} (h : Legal s) (payload : List Byte) :
    Legal (ownScanOpen .service payload s).1 := by
  unfold Machine.ownScanOpen
  split
  · exact h
  · exact h.withBatch (by rintro _ ⟨⟩; exact ⟨rfl, by simp, List.Pairwise.nil⟩)

theorem Legal.ownScanPut {s : State} (h : Legal s) (p : Port) (payload : List Byte) :
    Legal (ownScanPut p payload s).1 := by
  unfold Machine.ownScanPut
  split
  · exact h
  · next b hb =>
    split
    · exact h
    · next xs _ =>
      have hrun := batchLegal_runPut s.active.config xs (h.batch b hb)
      have hput := h.withBatch (b := some { (runPut s.active.config b xs).batch with lastActivity := s.timebase.partTime })
        (by rintro _ ⟨⟩; exact hrun)
      dsimp only
      unfold logRejection
      split
      · exact hput
      · exact hput.handFault _ _ _

theorem Legal.ownScanClose {s : State} (h : Legal s) (p : Port) (payload : List Byte) :
    Legal (ownScanClose p payload s).1 := by
  unfold Machine.ownScanClose
  split
  · exact h
  · exact { h with batch := by simp }

theorem Legal.ownScanDrop {s : State} (h : Legal s) (p : Port) (payload : List Byte) :
    Legal (ownScanDrop p payload s).1 := by
  unfold Machine.ownScanDrop
  split
  · exact h
  · exact h.withBatch (by simp)

theorem Legal.ownSetPassState {s : State} (h : Legal s) (p : Port) (payload : List Byte) :
    Legal (ownSetPassState p payload s).1 := by
  unfold Machine.ownSetPassState
  split
  · split
    · split
      · unfold requestTarget
        dsimp only
        split
        · exact h
        · split
          · exact h
          · exact h.setPass _ (h.passes _)
      · exact h
    · exact h
  · exact h

theorem Legal.ownAcknowledge {s : State} (h : Legal s) (p : Port) (payload : List Byte) :
    Legal (ownAcknowledge p payload s).1 := by
  obtain he | ⟨_, _, _, _, i, _, _, _, _, _, he⟩ := ownAcknowledge_cases p payload s
  · rw [he]; exact h
  · rw [he]; exact h.changeAlarm _ _

theorem Legal.ownClearFaults {s : State} (h : Legal s) (p : Port) (payload : List Byte) :
    Legal (ownClearFaults p payload s).1 := by
  unfold Machine.ownClearFaults
  dsimp only
  split
  · exact { h with faults := forall_put h.faults faultLegal_empty }
  · split
    · exact { h with faults := fun n => (get_replicate _ _ n).symm ▸ faultLegal_empty }
    · exact h

theorem Legal.ownStoreImage {s : State} (h : Legal s) (p : Port) (payload : List Byte) :
    Legal (ownStoreImage p payload s).1 := by
  unfold Machine.ownStoreImage
  split
  · exact h
  · split
    · exact h
    · exact { h with }

theorem Legal.ownRestart {s : State} (h : Legal s) (p : Port) (payload : List Byte) :
    Legal (ownRestart p payload s).1 := by
  unfold Machine.ownRestart
  split
  · exact h
  · split
    · exact h
    · exact { h with }

/-- The owner of a request that its port may make leaves every unit legal. -/
theorem Legal.ownerOf {s : State} (h : Legal s) {k : RequestKind} {p : Port} (hp : admitted k p = true)
    (payload : List Byte) : Legal (ownerOf k p payload s).1 := by
  cases k with
  | getStatus | getCell | getPass | getLine | getHotlist | getPassinfo | getFaults => exact h
  | getNotices => exact { h with }
  | acknowledge => exact h.ownAcknowledge p payload
  | setPassState => exact h.ownSetPassState p payload
  | claim => exact h.ownClaim (of_decide_eq_true hp) payload
  | release => exact h.ownRelease p payload
  | stageLine | stageCell | stagePass | stageGlobal => exact h.stage _ p payload
  | commit => exact h.ownCommit p payload
  | getConfig => exact h.ownGetConfig p payload
  | scanOpen => obtain rfl : p = .service := of_decide_eq_true hp; exact h.ownScanOpen payload
  | scanPut => exact h.ownScanPut p payload
  | scanClose => exact h.ownScanClose p payload
  | scanDrop => exact h.ownScanDrop p payload
  | clearFaults => exact h.ownClearFaults p payload
  | storeImage => exact h.ownStoreImage p payload
  | restart => exact h.ownRestart p payload

theorem Legal.serve {s : State} (h : Legal s) (k : RequestKind) (p : Port) : Legal (serve k (Machine.ownerOf k) p s) :=
  serve_keeps h (fun _ _ _ _ ht => { ht with }) fun _ payload _ hadm => h.ownerOf (admitted_of_admission hadm) payload

theorem Legal.serveUnknown {s : State} (h : Legal s) (p : Port) : Legal (serveUnknown p s) := by
  unfold Machine.serveUnknown
  split
  · split
    · exact { h with }
    · exact h
  all_goals exact h

/-! ### The store and the transactions -/

theorem Legal.eraseEndEvent {s : State} (h : Legal s) : Legal (eraseEndEvent s) := by
  unfold Machine.eraseEndEvent
  split
  · exact h
  · split
    · exact { h with }
    all_goals exact h

theorem Legal.writeEndEvent {s : State} (h : Legal s) (misread : List (Nat × Byte)) :
    Legal (writeEndEvent misread s) := by
  unfold Machine.writeEndEvent
  split
  · exact h
  · split
    · exact { h with }
    all_goals exact h

theorem Legal.storeCompletionEvent {s : State} (h : Legal s) : Legal (storeCompletionEvent s) := by
  unfold Machine.storeCompletionEvent
  split
  · exact h
  · split
    · split
      · refine Legal.notify ?_ _ _
        exact { h with }
      · have hnone : Legal { s with store := none } := { h with }
        exact (hnone.handFault _ _ _).notify _ _
    all_goals exact h

theorem Legal.takeTransaction {s : State} (h : Legal s) (p : Port) (bytes : List Byte) (trailing : Bool) :
    Legal (takeTransaction p bytes trailing s) := by
  have hport : ∀ u bytes, Legal ((driveOut p bytes s).setPort p u) := fun _ _ => { h with }
  unfold Machine.takeTransaction
  dsimp only
  split
  · unfold goodFrame
    split
    · exact (hport _ _).handFault _ _ _
    all_goals exact hport _ _
  · exact (hport _ _).handFault _ _ _

/-! ### Outside RUNNING (R60, R155, R160) -/

theorem running_false {s : State} (h : s.stage ≠ .running) : s.running = false := by simp [State.running, h]

theorem inFlight_stopped {s : State} (g : GroupIx) (h : s.stage ≠ .running) : inFlight g s = none := by
  simp [inFlight, running_false h]

theorem serve_stopped {s : State} (k : RequestKind) (owner : Owner) (p : Port) (h : s.stage ≠ .running) :
    serve k owner p s = s := serve_idle k owner p s fun _ _ hasks => h hasks.1

theorem serveUnknown_stopped {s : State} (p : Port) (h : s.stage ≠ .running) : serveUnknown p s = s := by
  unfold serveUnknown
  split <;> simp [running_false h]

theorem crystalGapEvent_stopped {s : State} (h : s.stage ≠ .running) : crystalGapEvent s = s := by
  simp [crystalGapEvent, running_false h]

theorem crystalEdgeEvent_stopped {s : State} (h : s.stage ≠ .running) : crystalEdgeEvent s = s := by
  simp [crystalEdgeEvent, running_false h]

theorem crystalRestoreEvent_stopped {s : State} (h : s.stage ≠ .running) : crystalRestoreEvent s = s := by
  simp [crystalRestoreEvent, running_false h]

theorem lockReportEvent_stopped {s : State} (h : s.stage ≠ .running) : lockReportEvent s = s := by
  simp [lockReportEvent, running_false h]

theorem lossOfLockEvent_stopped {s : State} (h : s.stage ≠ .running) : lossOfLockEvent s = s := by
  simp [lossOfLockEvent, running_false h]

theorem lockTimeoutEvent_stopped {s : State} (h : s.stage ≠ .running) : lockTimeoutEvent s = s := by
  simp [lockTimeoutEvent, running_false h]

theorem retryExpiryEvent_stopped {s : State} (h : s.stage ≠ .running) : retryExpiryEvent s = s := by
  simp [retryExpiryEvent, running_false h]

theorem settleEndEvent_stopped {s : State} (g : GroupIx) (h : s.stage ≠ .running) : settleEndEvent g s = s := by
  simp [settleEndEvent, inFlight_stopped g h]

theorem armEdgeEvent_stopped {s : State} (g : GroupIx) (h : s.stage ≠ .running) : armEdgeEvent g s = s := by
  simp [armEdgeEvent, inFlight_stopped g h]

theorem armTimeoutEvent_stopped {s : State} (g : GroupIx) (h : s.stage ≠ .running) : armTimeoutEvent g s = s := by
  simp [armTimeoutEvent, inFlight_stopped g h]

theorem cycleCloseEvent_stopped {s : State} (g : GroupIx) (n : Nat) (h : s.stage ≠ .running) :
    cycleCloseEvent g n s = s := by
  simp [cycleCloseEvent, inFlight_stopped g h]

theorem countEndEvent_stopped {s : State} (g : GroupIx) (n : Nat) (h : s.stage ≠ .running) :
    countEndEvent g n s = s := by
  simp [countEndEvent, inFlight_stopped g h]

theorem countTimeoutEvent_stopped {s : State} (g : GroupIx) (h : s.stage ≠ .running) : countTimeoutEvent g s = s := by
  simp [countTimeoutEvent, inFlight_stopped g h]

theorem fallingEdgeEvent_stopped {s : State} (g : GroupIx) (n : Nat) (h : s.stage ≠ .running) :
    fallingEdgeEvent g n s = s := by
  simp [fallingEdgeEvent, inFlight_stopped g h]

theorem widthEndEvent_stopped {s : State} (g : GroupIx) (h : s.stage ≠ .running) : widthEndEvent g s = s := by
  simp [widthEndEvent, inFlight_stopped g h]

theorem widthTimeoutEvent_stopped {s : State} (g : GroupIx) (h : s.stage ≠ .running) : widthTimeoutEvent g s = s := by
  simp [widthTimeoutEvent, inFlight_stopped g h]

theorem readingRetireEvent_stopped {s : State} (l : LineIx) (h : s.stage ≠ .running) : readingRetireEvent l s = s := by
  simp [readingRetireEvent, running_false h]

theorem batchExpiryEvent_stopped {s : State} (h : s.stage ≠ .running) : batchExpiryEvent s = s := by
  unfold batchExpiryEvent
  split
  · rfl
  · rw [if_neg (by simp [running_false h])]

theorem scanEntryRetireEvent_stopped {s : State} (i : CellIx) (h : s.stage ≠ .running) :
    scanEntryRetireEvent i s = s := by
  unfold scanEntryRetireEvent
  split
  · rfl
  · rw [if_neg (by simp [running_false h])]

theorem claimExpiryEvent_stopped {s : State} (h : s.stage ≠ .running) : claimExpiryEvent s = s := by
  unfold claimExpiryEvent
  split
  · rfl
  · split
    · rfl
    · rw [if_neg (by simp [running_false h])]

theorem spallOverdueEvent_stopped {s : State} (p : PassIx) (h : s.stage ≠ .running) : spallOverdueEvent p s = s := by
  simp [spallOverdueEvent, running_false h]

theorem sweepBoundaryEvent_stopped {s : State} (h : s.stage ≠ .running) : sweepBoundaryEvent s = s := by
  simp [sweepBoundaryEvent, running_false h]

theorem restartPendingExpiryEvent_stopped {s : State} (h : s.stage ≠ .running) : restartPendingExpiryEvent s = s := by
  unfold restartPendingExpiryEvent
  split
  · rfl
  · rw [if_neg (by simp [running_false h])]

theorem cellComputationEvent_of_none {s : State} (h : s.sweep = none) : cellComputationEvent s = s := by
  simp [cellComputationEvent, h]

theorem eraseEndEvent_of_none {s : State} (h : s.store = none) : eraseEndEvent s = s := by
  simp [eraseEndEvent, h]

theorem writeEndEvent_of_none {s : State} (misread : List (Nat × Byte)) (h : s.store = none) :
    writeEndEvent misread s = s := by
  simp [writeEndEvent, h]

theorem storeCompletionEvent_of_none {s : State} (h : s.store = none) : storeCompletionEvent s = s := by
  simp [storeCompletionEvent, h]

/-! ### Restart sequences (R60, R173) -/

theorem quiet_abandon (cause : RestartCause) (s : State) : Quiet (abandon cause s) := by
  refine ⟨rfl, rfl, rfl, rfl, rfl, fun p => by cases p <;> rfl, fun g => ?_, rfl⟩
  simp [abandon, CaptureGroup.idle]

theorem timebaseLegal_restart : TimebaseLegal Timebase.restart := by simp [TimebaseLegal, Timebase.restart]

theorem legal_abandon (cause : RestartCause) {s : State} (hpasses : ∀ p, PassLegal (s.passes.get p)) :
    Legal (abandon cause s) where
  timebase := timebaseLegal_restart
  groups g := by simpa [abandon] using groupLegal_idle
  passes := hpasses
  faults n := by simpa [abandon] using faultLegal_empty
  edit := by simp [abandon]
  batch := by simp [abandon]
  sweep := by simp [abandon]

theorem passLegal_restoredPass (r : RetainedPass) : PassLegal (restoredPass r) := by
  unfold restoredPass PassLegal
  by_cases h : r.state = .spall <;> simp [h]

theorem Legal.clearForCold {s : State} (h : Legal s) (cause : RestartCause) : Legal (clearForCold cause s) :=
  { h with passes := fun p => (get_replicate _ _ p).symm ▸ passLegal_online }

theorem Legal.rebuildHotList {s : State} (h : Legal s) : Legal (rebuildHotList s) where
  timebase := by simpa using h.timebase
  groups := by simpa using h.groups
  passes := by simpa using h.passes
  faults := by simpa using h.faults
  edit := by simpa using h.edit
  batch := by simpa using h.batch
  sweep := by simpa using h.sweep

/-- RUNNING with no level low: the groups take the configuration up, and the timebase restarts. -/
theorem unitsLegal_reachRunning {s : State} (h : Legal s) (hreset : s.pins.resetLow = false)
    (hcore : s.pins.coreLow = false) : UnitsLegal (reachRunning s) := by
  refine unitsLegal_iff.2 ⟨{ h with timebase := timebaseLegal_restart, groups := fun g => ?_ }, ?_, fun hne => ?_⟩
  · exact (get_ofFn _ g).symm ▸ groupLegal_takeUp _ _ _
  · simp [Levels, reachRunning, driveAlerts, hreset, hcore]
  · exact absurd rfl hne

theorem unitsLegal_keepHold {s : State} (h : Legal s) (hreset : s.pins.resetLow = false)
    (hcore : s.pins.coreLow = false) : UnitsLegal (keepHold s) := by
  unfold keepHold
  refine unitsLegal_reachRunning (Legal.rebuildHotList (Legal.retain ?_ _)) hreset hcore
  exact { h with passes := fun p => (get_map _ _ p).symm ▸ passLegal_restoredPass _ }

/-- A fault handed outside RUNNING disturbs no quiet. -/
theorem Quiet.handFault {s : State} (h : Quiet s) (src : FaultSource) (kind : FaultKind) (detail : Detail) :
    Quiet (handFault src kind detail s) := by
  obtain ⟨h1, h2, h3, h4, h5, h6, h7, h8⟩ := h
  refine ⟨by simpa using h1, by simpa using h2, by simpa using h3, by simpa using h4, by simpa using h5, fun p => ?_,
    by simpa using h7, by simpa using h8⟩
  rw [handFault_slot]
  exact h6 p

theorem unitsLegal_loseHold {s : State} (h : Legal s) (hquiet : Quiet s) (hreset : s.pins.resetLow = false)
    (hcore : s.pins.coreLow = false) : UnitsLegal (loseHold s) := by
  have hstaged : Legal { s with cause := .holdLost, stage := .imageLoad } := { h with }
  have hcleared : Quiet (Machine.clearForCold .holdLost { s with cause := .holdLost, stage := .imageLoad }) := hquiet
  refine unitsLegal_iff.2 ⟨(hstaged.clearForCold _).handFault _ _ _, ?_, fun _ => Quiet.handFault hcleared _ _ _⟩
  simp [Levels, loseHold, Machine.clearForCold, clearAlarms, hreset, hcore]

theorem unitsLegal_passHeld {s : State} (h : Legal s) (hquiet : Quiet s) (hstage : s.stage = .resetHeld) :
    UnitsLegal (passHeld s) := by
  refine passHeld_cases s (fun hlow => ?held) (fun hreset hcore _ => ?cold)
    (fun hreset hcore => unitsLegal_keepHold h hreset hcore)
    fun hreset hcore => unitsLegal_loseHold h hquiet hreset hcore
  case held => exact unitsLegal_iff.2 ⟨h, ⟨fun _ => hlow, fun _ => hstage⟩, fun _ => hquiet⟩
  case cold => exact unitsLegal_iff.2 ⟨{ h with }, by simp [Levels, hreset, hcore], fun _ => hquiet⟩

theorem unitsLegal_beginWarm (cause : RestartCause) {s : State} (h : Legal s) : UnitsLegal (beginWarm cause s) :=
  unitsLegal_passHeld (legal_abandon cause h.passes) (quiet_abandon cause s) rfl

theorem unitsLegal_powerOnEvent {s : State} (h : Legal s) : UnitsLegal (powerOnEvent s) :=
  unitsLegal_passHeld (Legal.clearForCold (legal_abandon .powerOn
    (s := { s with pins := { s.pins with coreLow := false, holdSupply := true } }) h.passes) _)
    (quiet_abandon .powerOn { s with pins := { s.pins with coreLow := false, holdSupply := true } }) rfl

theorem unitsLegal_resetPinEvent {s : State} (h : UnitsLegal s) : UnitsLegal (resetPinEvent s) := by
  unfold resetPinEvent
  split
  · exact h
  · exact unitsLegal_beginWarm _ { (unitsLegal_iff.1 h).1 with }

theorem unitsLegal_brownoutEvent {s : State} (h : UnitsLegal s) : UnitsLegal (brownoutEvent s) := by
  unfold brownoutEvent
  split
  · exact h
  · exact unitsLegal_beginWarm _ { (unitsLegal_iff.1 h).1 with }

theorem unitsLegal_resetHeldEndEvent (l : HeldLevel) {s : State} (h : UnitsLegal s) :
    UnitsLegal (resetHeldEndEvent l s) := by
  obtain ⟨hlegal, _, hquiet⟩ := unitsLegal_iff.1 h
  unfold resetHeldEndEvent
  split
  · next hstage => exact unitsLegal_passHeld { hlegal with } (hquiet (by simp [hstage])) hstage
  · exact h

theorem Legal.reportLoad {s : State} (h : Legal s) (o : LoadOutcome) : Legal (reportLoad o s) := by
  unfold Machine.reportLoad
  split
  · exact h
  · exact h.handFault _ _ _

theorem unitsLegal_imageLoadEvent {s : State} (h : UnitsLegal s) : UnitsLegal (imageLoadEvent s) := by
  obtain ⟨hlegal, hlevels, _⟩ := unitsLegal_iff.1 h
  unfold imageLoadEvent
  split
  · next hstage =>
    have hlow : ¬(s.pins.resetLow = true ∨ s.pins.coreLow = true) := fun hlow => by
      rw [hlevels.2 hlow] at hstage; cases hstage
    simp only [not_or, Bool.not_eq_true] at hlow
    have hpins : ∀ o v, (reportLoad o v).pins = v.pins := fun o v => by unfold reportLoad; split <;> simp
    refine unitsLegal_reachRunning (Legal.reportLoad ?_ _) (by rw [hpins]; exact hlow.1) (by rw [hpins]; exact hlow.2)
    exact { hlegal with passes := fun p => (get_replicate _ _ p).symm ▸ passLegal_online }
  · exact h

/-! ### One command -/

/-- The stage and the two input levels that RESET_HELD waits for. -/
def levelsOf (s : State) : RestartStage × Bool × Bool := (s.stage, s.pins.resetLow, s.pins.coreLow)

theorem levelsOf_of_core {s t : State} (h : coreOf t = coreOf s) : levelsOf t = levelsOf s :=
  congrArg (fun c : Core => (c.stage, c.resetLow, c.coreLow)) h

@[simp] theorem levelsOf_changeAlarm (i : CellIx) (a : AlarmRecord) (s : State) :
    levelsOf (changeAlarm i a s) = levelsOf s := by
  unfold changeAlarm
  split
  · rfl
  · simp [levelsOf]

/-- A change that keeps the stage and the levels, the units legal, and outside RUNNING everything. -/
theorem unitsLegal_of_kept {s t : State} (hs : UnitsLegal s) (hstopped : s.stage ≠ .running → Quiet s → t = s)
    (hlegal : Legal s → Legal t) (hkept : levelsOf t = levelsOf s) : UnitsLegal t := by
  obtain ⟨hunits, hlevels, hquiet⟩ := unitsLegal_iff.1 hs
  have hstage : t.stage = s.stage := congrArg (fun l => l.1) hkept
  have hreset : t.pins.resetLow = s.pins.resetLow := congrArg (fun l => l.2.1) hkept
  have hcore : t.pins.coreLow = s.pins.coreLow := congrArg (fun l => l.2.2) hkept
  refine unitsLegal_iff.2 ⟨hlegal hunits, by rwa [Levels, hstage, hreset, hcore], fun hne => ?_⟩
  rw [hstage] at hne
  rw [hstopped hne (hquiet hne)]
  exact hquiet hne

theorem unitsLegal_of_core {s t : State} (hs : UnitsLegal s) (hstopped : s.stage ≠ .running → Quiet s → t = s)
    (hlegal : Legal s → Legal t) (hcore : coreOf t = coreOf s) : UnitsLegal t :=
  unitsLegal_of_kept hs hstopped hlegal (levelsOf_of_core hcore)

theorem unitsLegal_elapse (ms : Nat) {s : State} (hs : UnitsLegal s) : UnitsLegal (elapse ms s) :=
  unitsLegal_of_core hs (fun hne _ => elapse_stopped ms s hne) (·.elapse ms) (coreOf_elapse ms s)

theorem unitsLegal_driveOut (p : Port) (bytes : List Byte) {s : State} (hs : UnitsLegal s) :
    UnitsLegal (driveOut p bytes s) := hs

/-- No owner of a request reaches the stage or the input levels. -/
theorem levelsOf_ownerOf (k : RequestKind) (p : Port) (payload : List Byte) (s : State) :
    levelsOf (ownerOf k p payload s).1 = levelsOf s := by
  by_cases hack : k = .acknowledge
  · subst hack
    show levelsOf (ownAcknowledge p payload s).1 = levelsOf s
    obtain he | ⟨_, _, _, _, i, _, _, _, _, _, he⟩ := ownAcknowledge_cases p payload s
    · rw [he]
    · rw [he, levelsOf_changeAlarm]
  · by_cases hstore : k = .storeImage
    · subst hstore
      show levelsOf (ownStoreImage p payload s).1 = levelsOf s
      unfold ownStoreImage
      split
      · rfl
      · split <;> rfl
    · exact levelsOf_of_core (coreOf_ownerOf hack hstore p payload s)

theorem unitsLegal_request (k : RequestKind) (p : Port) {s : State} (hs : UnitsLegal s) :
    UnitsLegal (serve k (ownerOf k) p s) :=
  unitsLegal_of_kept hs (fun hne _ => serve_stopped k _ p hne) (·.serve k p)
    (serve_keeps (P := fun t => levelsOf t = levelsOf s) rfl (fun _ _ _ _ h => h) fun _ payload _ _ =>
      levelsOf_ownerOf k p payload s)

theorem unitsLegal_takePoll (p : Port) (n : Nat) {s : State} (hs : UnitsLegal s) : UnitsLegal (takePoll p n s) :=
  takePoll_cases p n s (fun _ => hs) fun _ => unitsLegal_beginWarm _ { (unitsLegal_iff.1 hs).1 with }

theorem unitsLegal_transact (p : Port) (n : Nat) (begun : Bool) {body : State → State} {s : State} (hs : UnitsLegal s)
    (hbody : s.stage = .running → UnitsLegal (body s)) : UnitsLegal (transact p n begun body s) :=
  transact_cases p n begun body s hs (fun hrunning _ => hbody hrunning) hs

theorem unitsLegal_transactionEvent (p : Port) (bytes : List Byte) (trailing : Bool) {s : State} (hs : UnitsLegal s)
    (hrunning : s.stage = .running) : UnitsLegal (transactionEvent p bytes trailing s) := by
  unfold transactionEvent
  split
  · exact unitsLegal_takePoll p _ hs
  · exact unitsLegal_of_core hs (fun hne _ => absurd hrunning hne) (·.takeTransaction p bytes trailing)
      (coreOf_takeTransaction p bytes trailing s)

theorem unitsLegal_restartPendingExpiryEvent {s : State} (hs : UnitsLegal s) :
    UnitsLegal (restartPendingExpiryEvent s) :=
  restartPendingExpiryEvent_cases s hs fun _ => unitsLegal_beginWarm _ (unitsLegal_iff.1 hs).1

@[simp] theorem levelsOf_computeCell (k : Word) (i : CellIx) (s : State) : levelsOf (computeCell k i s) = levelsOf s :=
  (levelsOf_changeAlarm _ _ _).trans (levelsOf_of_core ((coreOf_reportMismatch _ _ _).trans (coreOf_withWorking s _)))

theorem levelsOf_cellComputationEvent (s : State) : levelsOf (cellComputationEvent s) = levelsOf s := by
  unfold cellComputationEvent
  split
  · rfl
  · split
    · rfl
    · rw [levelsOf_of_core (coreOf_advanceSweep _ _ _ _ _), levelsOf_computeCell]

theorem unitsLegal_cellComputationEvent {s : State} (hs : UnitsLegal s) : UnitsLegal (cellComputationEvent s) :=
  unitsLegal_of_kept hs (fun _ hquiet => cellComputationEvent_of_none hquiet.2.1) (·.cellComputationEvent)
    (levelsOf_cellComputationEvent s)

theorem unitsLegal_writeEndEvent (misread : List (Nat × Byte)) {s : State} (hs : UnitsLegal s) :
    UnitsLegal (writeEndEvent misread s) := by
  refine unitsLegal_of_kept hs (fun _ hquiet => writeEndEvent_of_none misread hquiet.1) (·.writeEndEvent misread) ?_
  unfold writeEndEvent
  split
  · rfl
  · split <;> rfl

theorem unitsLegal_storeCompletionEvent {s : State} (hs : UnitsLegal s) : UnitsLegal (storeCompletionEvent s) := by
  refine unitsLegal_of_kept hs (fun _ hquiet => storeCompletionEvent_of_none hquiet.1) (·.storeCompletionEvent) ?_
  unfold storeCompletionEvent
  split
  · rfl
  · split
    · split <;> simp [levelsOf]
    all_goals rfl

theorem unitsLegal_holdDisturbance (u : HoldUpset) {s : State} (hs : UnitsLegal s) :
    UnitsLegal (holdDisturbance u s) := by
  obtain ⟨hlegal, hlevels, hquiet⟩ := unitsLegal_iff.1 hs
  refine unitsLegal_iff.2 ⟨{ hlegal with }, ?_, hquiet⟩
  cases u <;> exact hlevels

theorem unitsLegal_exec {s : State} (hs : UnitsLegal s) (c : Instr) : ∃ t, exec c s = .next t ∧ UnitsLegal t := by
  have request : ∀ k p, ∃ t, exec (requestCommand k p) s = .next t ∧ UnitsLegal t := fun k p =>
    ⟨_, exec_request k p s, unitsLegal_request k p hs⟩
  have timed : ∀ (e : State → State) ms, (∀ v : State, v.stage ≠ .running → e v = v) → (∀ v, Legal v → Legal (e v)) →
      (∀ v, coreOf (e v) = coreOf v) → UnitsLegal (e (elapse ms s)) := fun e ms hstopped hlegal hcore =>
    unitsLegal_of_core (unitsLegal_elapse ms hs) (fun hne _ => hstopped _ hne) (hlegal _) (hcore _)
  have untimed : ∀ (e : State → State), (∀ v : State, v.stage ≠ .running → e v = v) → (∀ v, Legal v → Legal (e v)) →
      (∀ v, coreOf (e v) = coreOf v) → UnitsLegal (e s) := fun e hstopped hlegal hcore =>
    unitsLegal_of_core hs (fun hne _ => hstopped _ hne) (hlegal _) (hcore _)
  cases c with
  | requestTransaction p bytes trailing begun =>
    exact ⟨_, rfl, unitsLegal_transact p _ begun hs (unitsLegal_transactionEvent p bytes trailing hs)⟩
  | poll p n begun => exact ⟨_, rfl, unitsLegal_transact p n begun hs fun _ => unitsLegal_takePoll p n hs⟩
  | unknownKind p =>
    exact ⟨_, rfl, untimed _ (fun _ => serveUnknown_stopped p) (fun _ h => h.serveUnknown p) (coreOf_serveUnknown p)⟩
  | getStatus p => exact request .getStatus p
  | getNotices p => exact request .getNotices p
  | getCell p => exact request .getCell p
  | getPass p => exact request .getPass p
  | getLine p => exact request .getLine p
  | getHotlist p => exact request .getHotlist p
  | getPassinfo p => exact request .getPassinfo p
  | acknowledge p => exact request .acknowledge p
  | setPassState p => exact request .setPassState p
  | claim p => exact request .claim p
  | release p => exact request .release p
  | stageLine p => exact request .stageLine p
  | stageCell p => exact request .stageCell p
  | stagePass p => exact request .stagePass p
  | stageGlobal p => exact request .stageGlobal p
  | commit p => exact request .commit p
  | getConfig p => exact request .getConfig p
  | scanOpen p => exact request .scanOpen p
  | scanPut p => exact request .scanPut p
  | scanClose p => exact request .scanClose p
  | scanDrop p => exact request .scanDrop p
  | getFaults p => exact request .getFaults p
  | clearFaults p => exact request .clearFaults p
  | storeImage p => exact request .storeImage p
  | restart p => exact request .restart p
  | settleEnd g ms =>
    exact ⟨_, rfl, timed _ ms (fun _ => settleEndEvent_stopped g) (fun _ h => h.settleEndEvent g)
      (coreOf_settleEndEvent g)⟩
  | armEdge g =>
    exact ⟨_, rfl, untimed _ (fun _ => armEdgeEvent_stopped g) (fun _ h => h.armEdgeEvent g) (coreOf_armEdgeEvent g)⟩
  | armTimeout g ms =>
    exact ⟨_, rfl, timed _ ms (fun _ => armTimeoutEvent_stopped g) (fun _ h => h.armTimeoutEvent g)
      (coreOf_armTimeoutEvent g)⟩
  | countEnd g n =>
    exact ⟨_, rfl, untimed _ (fun _ => countEndEvent_stopped g n) (fun _ h => h.countEndEvent g n)
      (coreOf_countEndEvent g n)⟩
  | countTimeout g ms =>
    exact ⟨_, rfl, timed _ ms (fun _ => countTimeoutEvent_stopped g) (fun _ h => h.countTimeoutEvent g)
      (coreOf_countTimeoutEvent g)⟩
  | widthEnd g =>
    exact ⟨_, rfl, untimed _ (fun _ => widthEndEvent_stopped g) (fun _ h => h.widthEndEvent g) (coreOf_widthEndEvent g)⟩
  | widthTimeout g ms =>
    exact ⟨_, rfl, timed _ ms (fun _ => widthTimeoutEvent_stopped g) (fun _ h => h.widthTimeoutEvent g)
      (coreOf_widthTimeoutEvent g)⟩
  | readingRetire l ms =>
    exact ⟨_, rfl, timed _ ms (fun _ => readingRetireEvent_stopped l) (fun _ h => h.readingRetireEvent l)
      (coreOf_readingRetireEvent l)⟩
  | crystalGap =>
    exact ⟨_, rfl, untimed _ (fun _ => crystalGapEvent_stopped) (fun _ h => h.crystalGapEvent) coreOf_crystalGapEvent⟩
  | crystalRestore ms =>
    exact ⟨_, rfl, timed _ ms (fun _ => crystalRestoreEvent_stopped) (fun _ h => h.crystalRestoreEvent)
      coreOf_crystalRestoreEvent⟩
  | lockReport =>
    exact ⟨_, rfl, untimed _ (fun _ => lockReportEvent_stopped) (fun _ h => h.lockReportEvent) coreOf_lockReportEvent⟩
  | lossOfLockReport =>
    exact ⟨_, rfl, untimed _ (fun _ => lossOfLockEvent_stopped) (fun _ h => h.lossOfLockEvent) coreOf_lossOfLockEvent⟩
  | lockTimeout ms =>
    exact ⟨_, rfl, timed _ ms (fun _ => lockTimeoutEvent_stopped) (fun _ h => h.lockTimeoutEvent)
      coreOf_lockTimeoutEvent⟩
  | retryExpiry ms =>
    exact ⟨_, rfl, timed _ ms (fun _ => retryExpiryEvent_stopped) (fun _ h => h.retryExpiryEvent)
      coreOf_retryExpiryEvent⟩
  | sweepBoundary ms =>
    exact ⟨_, rfl, timed _ ms (fun _ => sweepBoundaryEvent_stopped) (fun _ h => h.sweepBoundaryEvent)
      coreOf_sweepBoundaryEvent⟩
  | cellComputation => exact ⟨_, rfl, unitsLegal_cellComputationEvent hs⟩
  | spallOverdue p ms =>
    exact ⟨_, rfl, timed _ ms (fun _ => spallOverdueEvent_stopped p) (fun _ h => h.spallOverdueEvent p)
      (coreOf_spallOverdueEvent p)⟩
  | batchExpiry ms =>
    exact ⟨_, rfl, timed _ ms (fun _ => batchExpiryEvent_stopped) (fun _ h => h.batchExpiryEvent)
      coreOf_batchExpiryEvent⟩
  | scanEntryRetire i ms =>
    exact ⟨_, rfl, timed _ ms (fun _ => scanEntryRetireEvent_stopped i) (fun _ h => h.scanEntryRetireEvent i)
      (coreOf_scanEntryRetireEvent i)⟩
  | claimExpiry ms =>
    exact ⟨_, rfl, timed _ ms (fun _ => claimExpiryEvent_stopped) (fun _ h => h.claimExpiryEvent)
      coreOf_claimExpiryEvent⟩
  | powerOn => exact ⟨_, rfl, unitsLegal_powerOnEvent (unitsLegal_iff.1 hs).1⟩
  | resetPin => exact ⟨_, rfl, unitsLegal_resetPinEvent hs⟩
  | brownout => exact ⟨_, rfl, unitsLegal_brownoutEvent hs⟩
  | resetHeldEnd l => exact ⟨_, rfl, unitsLegal_resetHeldEndEvent l hs⟩
  | restartPendingExpiry ms => exact ⟨_, rfl, unitsLegal_restartPendingExpiryEvent (unitsLegal_elapse ms hs)⟩
  | imageLoad => exact ⟨_, rfl, unitsLegal_imageLoadEvent hs⟩
  | eraseEnd =>
    exact ⟨_, rfl, unitsLegal_of_core hs (fun _ hquiet => eraseEndEvent_of_none hquiet.1) (·.eraseEndEvent)
      (coreOf_eraseEndEvent s)⟩
  | writeEnd misread => exact ⟨_, rfl, unitsLegal_writeEndEvent misread hs⟩
  | storeCompletion => exact ⟨_, rfl, unitsLegal_storeCompletionEvent hs⟩
  | crystalEdge =>
    exact ⟨_, rfl, untimed _ (fun _ => crystalEdgeEvent_stopped) (fun _ h => h.crystalEdgeEvent) coreOf_crystalEdgeEvent⟩
  | cycleClose g n =>
    exact ⟨_, rfl, untimed _ (fun _ => cycleCloseEvent_stopped g n) (fun _ h => h.cycleCloseEvent g n)
      (coreOf_cycleCloseEvent g n)⟩
  | fallingEdge g n =>
    exact ⟨_, rfl, untimed _ (fun _ => fallingEdgeEvent_stopped g n) (fun _ h => h.fallingEdgeEvent g n)
      (coreOf_fallingEdgeEvent g n)⟩
  | entryStorageUpset i e code =>
    obtain ⟨hlegal, hlevels, hquiet⟩ := unitsLegal_iff.1 hs
    have hupset : Legal (upsetEntry i e code s) := { hlegal with }
    exact ⟨_, rfl, unitsLegal_iff.2 ⟨hupset, hlevels, hquiet⟩⟩
  | holdDomainDisturbance u => exact ⟨_, rfl, unitsLegal_holdDisturbance u hs⟩

/-- Settles O59: each unit's rule is kept by every event, and outside RUNNING, where nothing is in flight, an event
finds nothing to do. -/
theorem unitsStayLegal : Obligations.UnitsStayLegal := fun _ _ =>
  step_keeps (fun _ _ hs => hs) (fun _ hs => unitsLegal_elapse 1 hs) fun _ hs => unitsLegal_exec hs

end Sys2Proof.Proofs.Units

/-! PROOF. What the front command of the queue and the passing of time do, and what a disturbance leaves. -/
namespace Sys2Proof.Proofs.Commands
open Sys2Proof Sys2Proof.Machine Sys2Proof.Proofs.Frames Sys2Proof.Proofs.Sequences Sys2Proof.Proofs.AlarmUnit
open Sys2Proof.Proofs.FlashRegion

/-- Settles O1: the step takes the queue apart. -/
theorem stepRunsFrontCommand : Obligations.StepRunsFrontCommand := by
  intro c rest s hqueue
  simp only [step, hqueue]

/-! ### The queue (O2) -/

theorem pending_of_core {s t : State} (h : coreOf t = coreOf s) : t.pending = s.pending := congrArg Core.pending h

theorem pending_of_outside {s t : State} (h : outsideOf t = outsideOf s) : t.pending = s.pending := congrArg Prod.fst h

theorem ownStoreImage_pending (p : Port) (payload : List Byte) (s : State) :
    (ownStoreImage p payload s).1.pending = s.pending := by
  unfold ownStoreImage
  split
  · rfl
  · split <;> rfl

theorem writeEndEvent_pending (misread : List (Nat × Byte)) (s : State) :
    (writeEndEvent misread s).pending = s.pending := by
  unfold writeEndEvent
  split
  · rfl
  · split <;> rfl

theorem storeCompletionEvent_pending (s : State) : (storeCompletionEvent s).pending = s.pending := by
  unfold storeCompletionEvent
  split
  · rfl
  · split
    · split <;> simp
    all_goals rfl

/-- No command reaches the queue. -/
theorem exec_pending (c : Instr) (s : State) : ∃ t, exec c s = .next t ∧ t.pending = s.pending :=
  exec_cases (P := fun _ t => t.pending = s.pending) s
    (quiet := fun _ _ => pending_of_core)
    (acknowledge := fun _ => serve_keeps (P := fun t => t.pending = s.pending) rfl (fun _ _ _ _ h => h)
      fun _ payload _ _ => pending_of_outside (outsideOf_ownAcknowledge _ payload s))
    (storeImage := fun _ => serve_keeps (P := fun t => t.pending = s.pending) rfl (fun _ _ _ _ h => h)
      fun _ payload _ _ => ownStoreImage_pending _ payload s)
    (requestTransaction := fun p bytes trailing begun =>
      pending_of_outside (outsideOf_transact p _ begun _ s (outsideOf_transactionEvent p bytes trailing s)))
    (poll := fun p n begun => pending_of_outside (outsideOf_transact p n begun _ s (outsideOf_takePoll p n s)))
    (cellComputation := pending_of_outside (outsideOf_cellComputationEvent s))
    (writeEnd := fun misread => writeEndEvent_pending misread s)
    (storeCompletion := storeCompletionEvent_pending s)
    (powerOn := pending_of_outside (outsideOf_powerOnEvent s))
    (resetPin := pending_of_outside (outsideOf_resetPinEvent s))
    (brownout := pending_of_outside (outsideOf_brownoutEvent s))
    (resetHeldEnd := fun l => pending_of_outside (outsideOf_resetHeldEndEvent l s))
    (restartPendingExpiry := fun ms =>
      (pending_of_outside (outsideOf_restartPendingExpiryEvent _)).trans (pending_of_core (coreOf_elapse ms s)))
    (imageLoad := pending_of_outside (outsideOf_imageLoadEvent s))
    (holdDomainDisturbance := fun _ => rfl) c

/-! ### Time (R59, R60) -/

/-- Outside a restart sequence part time and every running timer count. -/
theorem elapse_of_running {s : State} (ms : Nat) (h : s.stage = .running) :
    elapse ms s = { s with timebase := elapseTimebase ms s.timebase, groups := s.groups.map (elapseGroup ms)
                           passes := s.passes.map (elapsePass ms) } := by
  simp [elapse, State.running, h]

/-- Settles O2: `exec_pending` for a command, and time by its two cases. -/
theorem everyStepAnswers : Obligations.EveryStepAnswers :=
  ⟨exec_pending, fun s hqueue => by simp only [step, hqueue],
    fun ms s => ⟨elapse_stopped ms s, fun hrunning => elapse_of_running ms hrunning⟩⟩

/-! ### Disturbances (R69, R174) -/

/-- Settles O55: each disturbance leaves its operand where it strikes, and the stored check as it stands. -/
theorem disturbancesChangeStoredBits : Obligations.DisturbancesChangeStoredBits := by
  rintro s i e code v c n a q st target l lr pr gr h gen rfl
  exact ⟨rfl, rfl, rfl, rfl, rfl, rfl, rfl, rfl, rfl, rfl, rfl⟩

end Sys2Proof.Proofs.Commands

/-! PROOF. The frames of requests and responses, and what a transaction makes of them (R151 to R156, R160). -/
namespace Sys2Proof.Proofs.Transactions
open Sys2Proof Sys2Proof.Machine Sys2Proof.Proofs.Frames Sys2Proof.Proofs.Sequences

/-! ### Good frames (R152) -/

theorem length_be16 (n : Nat) : (be16 n).length = 2 := rfl

/-- A good frame is the frame of the request it carries. -/
theorem requestFrame_of_readFrame {bytes : List Byte} {trailing : Bool} {r : Request}
    (h : readFrame bytes trailing = some r) :
    trailing = false ∧ r.payload.length ≤ 64 ∧ bytes = requestFrame r := by
  unfold readFrame at h
  split at h
  · next kind tag len rest =>
    split at h
    · cases h
    · next htrailing =>
      split at h
      · cases h
      · next hlen =>
        split at h
        · cases h
        · next hrest =>
          dsimp only at h
          split at h
          · next hcrc =>
            cases h
            have htake : (rest.take len.toNat).length = len.toNat := by rw [List.length_take]; omega
            refine ⟨Bool.eq_false_iff.2 htrailing, by rw [htake]; omega, ?_⟩
            have hof : BitVec.ofNat 8 len.toNat = len := by simp
            simp only [requestFrame, htake, hof, hcrc, List.cons_append, List.take_append_drop]
          · cases h
  · cases h

/-- The frame of a request of at most 64 payload bytes is good, and carries it. -/
theorem readFrame_requestFrame {r : Request} (h : r.payload.length ≤ 64) : readFrame (requestFrame r) false = some r := by
  obtain ⟨kind, tag, payload⟩ := r
  dsimp only at h
  have hlen : (BitVec.ofNat 8 payload.length).toNat = payload.length := by
    rw [BitVec.toNat_ofNat]; omega
  simp only [requestFrame, List.cons_append, readFrame, hlen, Bool.false_eq_true, if_false, List.length_append,
    length_be16, List.take_left, List.drop_left, if_true, ne_eq, not_true_eq_false]
  rw [if_neg (by omega)]

/-- Settles O3: reading inverts framing (`requestFrame_of_readFrame`, `readFrame_requestFrame`). -/
theorem goodFramesAreRequestFrames : Obligations.GoodFramesAreRequestFrames := by
  refine fun bytes trailing r => ⟨requestFrame_of_readFrame, ?_⟩
  rintro ⟨rfl, hlen, rfl⟩
  exact readFrame_requestFrame hlen

theorem readFrame_nil (trailing : Bool) : readFrame [] trailing = none := rfl

/-! ### The transaction as a whole (R151, R160) -/

theorem transact_of_count_zero (p : Port) (begun : Bool) (body : State → State) (s : State) :
    transact p 0 begun body s = s := rfl

theorem transact_of_running {n : Nat} {s : State} (p : Port) (body : State → State) (hn : n ≠ 0)
    (hrunning : s.stage = .running) : transact p n false body s = body s := by
  simp [transact, hn, State.running, hrunning]

theorem transact_of_silenced {n : Nat} {begun : Bool} {s : State} (p : Port) (body : State → State) (hn : n ≠ 0)
    (h : s.stage ≠ .running ∨ begun = true) : transact p n begun body s = driveOut p [] s := by
  have hsilent : ¬(s.running = true ∧ begun = false) := by
    rintro ⟨hrunning, hbegun⟩
    obtain hstage | hearly := h
    · exact hstage (by simpa [State.running] using hrunning)
    · simp [hearly] at hbegun
  simp only [transact, hn, hsilent, if_false]

/-- Settles O5: no byte, no effect; touched by a sequence, no data out. -/
theorem restartSilencesPorts : Obligations.RestartSilencesPorts := by
  refine fun p bytes n trailing begun s => ⟨?empty, rfl, fun htouched hbytes hn => ⟨?request, ?poll⟩⟩
  case empty => rintro rfl; rfl
  case request =>
    exact congrArg Host.Outcome.next (transact_of_silenced p _ (Nat.ne_of_gt (List.length_pos_iff.2 hbytes)) htouched)
  case poll => exact congrArg Host.Outcome.next (transact_of_silenced p _ (Nat.ne_of_gt hn) htouched)

/-! ### A request transaction (R151, R153, R154) -/

theorem shiftOut_single {n : Nat} (b : Byte) (hn : n ≠ 0) : shiftOut n [b] = b :: List.replicate (n - 1) 0#8 := by
  obtain ⟨k, rfl⟩ := Nat.exists_eq_succ_of_ne_zero hn
  simp [shiftOut, List.take_replicate]

theorem exec_requestTransaction {bytes : List Byte} {s : State} (p : Port) (trailing : Bool)
    (hrunning : s.stage = .running) (hbytes : bytes ≠ []) (hhead : bytes.head? ≠ some 0#8) :
    exec (.requestTransaction p bytes trailing false) s = .next (takeTransaction p bytes trailing s) := by
  have hlen : bytes.length ≠ 0 := (Nat.ne_of_gt (List.length_pos_iff.2 hbytes))
  change Host.Outcome.next (transact p bytes.length false (transactionEvent p bytes trailing) s) = _
  rw [transact_of_running p _ hlen hrunning, transactionEvent, if_neg hhead]

theorem takeTransaction_of_some {bytes : List Byte} {r : Request} {s : State} {trailing : Bool} (p : Port)
    (h : readFrame bytes trailing = some r) :
    takeTransaction p bytes trailing s =
      goodFrame p r (driveOut p (shiftOut bytes.length [statusByte (s.ports.get p)]) s) := by
  simp only [takeTransaction, h]

theorem takeTransaction_of_none {bytes : List Byte} {s : State} {trailing : Bool} (p : Port)
    (h : readFrame bytes trailing = none) :
    takeTransaction p bytes trailing s =
      badFrame p (driveOut p (shiftOut bytes.length [statusByte (s.ports.get p)]) s) := by
  simp only [takeTransaction, h]

theorem goodFrame_of_processing {p : Port} {q : Request} {s : State} (r : Request)
    (h : (s.ports.get p).slot = .processing q) :
    goodFrame p r s = handFault (.port p) .overrun .none (s.setPort p { s.ports.get p with overrun := true }) := by
  simp only [goodFrame, h]

theorem goodFrame_of_free {p : Port} {s : State} (r : Request) (h : ∀ q, (s.ports.get p).slot ≠ .processing q) :
    goodFrame p r s =
      s.setPort p { s.ports.get p with slot := .processing r, overrun := false, frameError := false } := by
  unfold goodFrame
  split
  · next q hq => exact absurd hq (h q)
  · rfl
  · rfl

/-- Settles O4: the frame is judged by `readFrame`, a good one by the slot it finds. -/
theorem requestFramesJudged : Obligations.RequestFramesJudged := by
  refine ⟨fun p bytes r s hrunning hhead hread hfree => ?taken, fun p bytes r q s hrunning hhead hread hslot => ?overrun,
    fun p bytes trailing s hrunning hbytes hhead hread => ?bad⟩
  case taken =>
    have hbytes : bytes ≠ [] := by rintro rfl; cases hread
    rw [exec_requestTransaction p false hrunning hbytes hhead, takeTransaction_of_some p hread,
      shiftOut_single _ (Nat.ne_of_gt (List.length_pos_iff.2 hbytes)), goodFrame_of_free r (by simpa using hfree)]
    rfl
  case overrun =>
    have hbytes : bytes ≠ [] := by rintro rfl; cases hread
    rw [exec_requestTransaction p false hrunning hbytes hhead, takeTransaction_of_some p hread,
      shiftOut_single _ (Nat.ne_of_gt (List.length_pos_iff.2 hbytes)), goodFrame_of_processing r (by simpa using hslot)]
    rfl
  case bad =>
    rw [exec_requestTransaction p trailing hrunning hbytes hhead, takeTransaction_of_none p hread,
      shiftOut_single _ (Nat.ne_of_gt (List.length_pos_iff.2 hbytes))]
    rfl

/-! ### A poll (R151, R156) -/

/-- A poll delivers a restart: the whole frame of a RESTART answered OK, on the service port, with one pending. -/
def Delivers (p : Port) (n : Nat) (s : State) : Prop :=
  (responseFrame (s.ports.get p)).length ≤ n ∧ restartAnswered (s.ports.get p).slot = true ∧ p = .service ∧
    s.restartPending.isSome = true

theorem takePoll_of_plain {p : Port} {n : Nat} {s : State} (h : ¬ Delivers p n s) :
    takePoll p n s = driveOut p (shiftOut n (responseFrame (s.ports.get p))) s := if_neg h

theorem takePoll_of_delivers {p : Port} {n : Nat} {s : State} (h : Delivers p n s) :
    takePoll p n s = beginWarm .request (driveOut p (shiftOut n (responseFrame (s.ports.get p))) s) := if_pos h

theorem restartAnswered_iff {slot : Slot} :
    restartAnswered slot = true ↔ ∃ r a, slot = .answered r a ∧ r.kind = 0x61#8 ∧ a.code = .ok := by
  cases slot with
  | empty => simp [restartAnswered]
  | processing r => simp [restartAnswered]
  | answered r a =>
    rw [restartAnswered, decide_eq_true_eq]
    exact ⟨fun ⟨hkind, hcode⟩ => ⟨r, a, rfl, hkind, hcode⟩,
      fun ⟨_, _, heq, hkind, hcode⟩ => by cases heq; exact ⟨hkind, hcode⟩⟩

theorem statusByte_eq (u : PortUnit) :
    statusByte u = BitVec.ofNat 8 ((if isAnswered u.slot then 128 else 0) + (if u.overrun then 64 else 0) +
      (if u.frameError then 32 else 0) + (if u.notices = NoticeSet.empty then 0 else 16)) := by
  simp only [statusByte, weight, anyNotice]
  by_cases h : u.notices = NoticeSet.empty <;> simp [h]

theorem exec_poll {n : Nat} {s : State} (p : Port) (hrunning : s.stage = .running) (hn : 1 ≤ n) :
    exec (.poll p n false) s = .next (takePoll p n s) :=
  congrArg Host.Outcome.next (transact_of_running p _ (Nat.ne_of_gt hn) hrunning)

/-- Settles O6: the body of the frame is that of the slot, and no restart is delivered. -/
theorem pollShiftsResponseFrame : Obligations.PollShiftsResponseFrame := by
  intro p n s hrunning hn status body hstatus hempty hprocessing hanswered hplain
  have hframe : responseFrame (s.ports.get p) = body ++ be16 (crc16 body).toNat := by
    rw [← statusByte_eq] at hstatus
    unfold responseFrame
    cases hslot : (s.ports.get p).slot with
    | empty => rw [hempty hslot, hstatus]
    | processing r => rw [hprocessing r hslot, hstatus]
    | answered r a => rw [hanswered r a hslot, hstatus]; rfl
  have hdelivers : ¬ Delivers p n s := by
    rintro ⟨hlen, hok, hservice, hpending⟩
    rw [hframe, List.length_append, length_be16] at hlen
    obtain ⟨r, a, hslot, hkind, hcode⟩ := restartAnswered_iff.1 hok
    obtain h | h | h | h := hplain
    · omega
    · exact h hservice
    · simp [h] at hpending
    · exact (h r a hslot).elim (fun h => h hkind) fun h => h hcode
  rw [exec_poll p hrunning hn, takePoll_of_plain hdelivers, hframe]
  rfl

end Sys2Proof.Proofs.Transactions

/-! PROOF. The catalogue of requests, the codes and the record forms (R155, R161 to R165). -/
namespace Sys2Proof.Proofs.Catalogue
open Sys2Proof Sys2Proof.Machine Sys2Proof.Proofs.ScanBatches

/-! ### The parts of the forms (R161, R162) -/

theorem flagByte_eq (b : Bool) : [flagByte b] = byte1 (if b then 1 else 0) := by cases b <;> rfl

theorem weight_eq (b : Bool) (w : Nat) : weight b w = (if b then 1 else 0) * w := by cases b <;> simp [weight]

theorem cellRecordForm_eq (r : CellRecord) (a : AlarmRecord) :
    cellRecordForm r a =
      optSignedBytes r.estimate ++ byte1 (qualityCode r.quality * 16 + cellSourceCode r.source) ++
        byte1 (alarmStateCode a.state * 16 + severityCode a.severity) ++ optSignedBytes r.rate ++ byte1 r.age ++
        byte1 (r.contributors % 4 + (if r.scanPresent then 1 else 0) * 4) := by
  rw [cellRecordForm, weight_eq]
  rfl

theorem conditionByte_eq (a : AlarmRecord) :
    conditionByte a = byte1 (severityCode a.condition + (if a.restored then 1 else 0) * 128) := by
  rw [conditionByte, weight_eq]

theorem lineForm_eq (r : LineRecord) :
    lineForm r = byte1 (if r.fitted then 1 else 0) ++ be16 (r.zeroTrim % 65536).toNat ++ be16 r.span := by
  rw [← flagByte_eq]
  rfl

theorem globalForm_eq (r : GlobalRecord) :
    globalForm r =
      be16 r.sweepPeriod ++ byte1 r.staleLimit ++ byte1 r.staleHold ++ be16 r.disagreement ++ be16 r.scanMargin ++
        be32 r.scanValidAge ++ byte1 r.rateWindow ++ byte1 r.maxSpall ++ be16 r.spallOverdue ++
        byte1 (if r.multiplierEnable then 1 else 0) ++ byte1 (relockCode r.relock) ++ byte1 r.referenceAge ++
        r.groups.toList.flatMap fun x => be16 x.window ++ byte1 x.interleave := by
  rw [← flagByte_eq]
  rfl

theorem sourceForm_eq (x : SourceItem) : sourceForm x = byte1 x.line ++ be16 (x.trim % 65536).toNat := rfl

/-- The check sequence of an entry is its form. -/
theorem cellForm_eq (i : Nat) (e : CellEntry) :
    cellForm i e = be16 i ++ byte1 e.sources.length ++
      e.sources.flatMap (fun x => byte1 x.line ++ be16 (x.trim % 65536).toNat) ++ fallbackForm e.fallback := by
  simp only [cellForm, byte1, List.append_assoc, List.singleton_append]
  rfl

/-- Settles O7: the tables row by row, the forms part by part. -/
theorem catalogueAsListed : Obligations.CatalogueAsListed := by
  refine ⟨fun k => ?rows, fun q src a v st r ref tb k policy source => ?codes, fun code kind reason g => ?numbers,
    fun n => ⟨rfl, rfl, rfl⟩, fun absentOr bit habsent hbit => ?forms⟩
  case rows => cases k <;> rfl
  case codes =>
    refine ⟨?_, ?_, ?_, ?_, ?_, ?_, ?_, ?_, ?_, ?_, ?_⟩
    · cases q <;> rfl
    · cases src <;> rfl
    · cases a <;> rfl
    · cases v <;> rfl
    · cases st <;> rfl
    · cases r <;> rfl
    · cases ref <;> rfl
    · cases tb <;> rfl
    · cases k <;> rfl
    · cases policy <;> rfl
    · cases source <;> rfl
  case numbers =>
    refine ⟨?_, ?_, ?_, rfl, rfl, rfl, rfl, rfl, rfl, rfl, rfl⟩
    · cases code <;> rfl
    · cases kind <;> rfl
    · cases reason <;> rfl
  case forms =>
    obtain rfl : absentOr = optSignedBytes := funext fun v => by rw [habsent]; cases v <;> rfl
    obtain rfl : bit = fun b => if b then 1 else 0 := funext hbit
    refine ⟨cellRecordForm_eq, fun a => ?alarm, fun i a estimate => ?hot, fun r => ?reading, fun r => ?fault, lineForm_eq,
      fun _ => rfl, globalForm_eq, fun i e sequence hsequence => ?entry⟩
    case alarm => rw [alarmForm, conditionByte_eq]; rfl
    case hot => rw [hotListForm, conditionByte_eq]; rfl
    case reading =>
      obtain ⟨status, temperature, frequency, quality, corrected, epoch, stamp⟩ := r
      rw [readingForm, flagByte_eq]
      cases quality <;> cases frequency <;> rfl
    case fault =>
      obtain ⟨kind, stamp, detail, count, other⟩ := r
      rw [faultForm, flagByte_eq]
      cases kind <;> cases detail <;> rfl
    case entry =>
      have hform : cellForm i e = sequence := by
        rw [hsequence, cellForm_eq]
        obtain ⟨sources, fallback⟩ := e
        cases fallback <;> simp [fallbackForm, byte1, signedBe16, word16]
      exact ⟨hform, by rw [checkCode, hform]; rfl⟩

/-! ### The three tests (R155) -/

theorem kindOf?_eq_none {b : Byte} (h : ∀ k : RequestKind, kindByte k ≠ b) : kindOf? b = none := by
  rw [kindOf?, List.find?_eq_none]
  exact fun k _ => by simpa using h k

theorem exec_of_not_admitted {k : RequestKind} {p : Port} {tag : Byte} {payload : List Byte} {s : State}
    (hasks : Asks k p tag payload s) (hport : admitted k p = false) :
    exec (requestCommand k p) s = .next (answered k p tag payload (codeOnly .denied) s) := by
  rw [exec_request, serve_refused k (ownerOf k) p tag payload s .denied hasks (by simp [admission, hport])]

theorem serveUnknown_of_unlisted {p : Port} {r : Request} {s : State} (hrunning : s.stage = .running)
    (hslot : (s.ports.get p).slot = .processing r) (hkind : ∀ k : RequestKind, kindByte k ≠ r.kind) :
    serveUnknown p s = answerSlot p r (codeOnly .unknownKind) s := by
  simp [serveUnknown, hslot, State.running, hrunning, kindOf?_eq_none hkind]

/-- Settles O8: the first test that fails answers alone. -/
theorem catalogueTestsRefuse : Obligations.CatalogueTestsRefuse := by
  refine ⟨fun k p tag payload s hasks => ⟨exec_of_not_admitted hasks, fun n hport hfixed hne => ?length⟩,
    fun p r s hrunning hslot hkind => ?unknown⟩
  case length => exact exec_of_length_ne hasks hport hfixed hne
  case unknown => exact congrArg Host.Outcome.next (serveUnknown_of_unlisted hrunning hslot hkind)

end Sys2Proof.Proofs.Catalogue

/-! PROOF. The requests that read, and those of the fault bank (R42, R85, R86, R114, R131, R157 to R159, R168, R169). -/
namespace Sys2Proof.Proofs.Reports
open Sys2Proof Sys2Proof.Machine Sys2Proof.Proofs.ScanBatches Sys2Proof.Proofs.Catalogue

/-- A table read from its first entry to its last. -/
theorem toList_eq_map {α : Type} {n : Nat} (v : Vector α n) : v.toList = (List.finRange n).map v.get := by
  apply List.ext_getElem
  · simp
  · intro i h1 h2
    simp [table_get]

/-- A request that reads, from an admitted port with the catalogue's length, is answered and nothing else changes. -/
theorem exec_reading {k : RequestKind} {f : Port → List Byte → State → Reply} {p : Port} {tag : Byte}
    {payload : List Byte} {s : State} (howner : ownerOf k = reading f) (hasks : Asks k p tag payload s)
    (hport : admitted k p = true) (hfixed : fixedLength k = some payload.length) :
    exec (requestCommand k p) s = .next (answered k p tag payload (f p payload s) s) := by
  rw [exec_of_length_eq hasks hport hfixed, howner]
  rfl

/-! ### GET_STATUS and GET_HOTLIST (R114, R159, R162) -/

theorem length_statusPayload (s : State) : (statusPayload s).length = 33 := by
  have hbatch : (batchBytes s.timebase.partTime s.batch).length = 7 := by cases s.batch <;> rfl
  simp [statusPayload, hbatch, byte1, be16, be32]

theorem faultMask_eq (faults : Vector FaultRecord 15) :
    faultMask faults =
      ((List.finRange 15).map fun n => if (faults.get n).count ≠ 0 then 2 ^ n.1 else 0).sum := by
  simp only [faultMask, weight, decide_eq_true_eq]

/-- The claim as the status carries it. -/
def claimBytes (e : Option EditClaim) : List Byte :=
  e.elim (byte1 0 ++ byte1 0) fun e => byte1 (holderCode (some e.holder)) ++ byte1 (if e.commitPending then 1 else 0)

theorem claimBytes_eq (s : State) :
    byte1 (holderCode (claimHolder s)) ++ [flagByte (commitPendingNow s)] = claimBytes s.edit := by
  rw [flagByte_eq]
  unfold claimHolder commitPendingNow claimBytes
  cases s.edit <;> rfl

theorem statusPayload_eq (s : State) :
    statusPayload s =
      byte1 (timebaseCode s.timebase.state) ++ byte1 (if s.timebase.breakSeen then 1 else 0) ++
        be16 s.timebase.epoch.toNat ++ be32 s.timebase.partTime.toNat ++ be32 s.completed.toNat ++
        be16 s.active.generation.toNat ++ byte1 (sourceCode s.active.source) ++ claimBytes s.edit ++
        byte1 (storeCode (s.store.map fun x => x.stage)) ++ batchBytes s.timebase.partTime s.batch ++
        byte1 s.hotList.length ++ be16 s.unlisted ++
        be16 ((List.finRange 15).map fun n => if (s.faults.get n).count ≠ 0 then 2 ^ n.1 else 0).sum ++
        byte1 (causeCode s.hold.contents.lastCause) ++ be16 s.hold.contents.warmCount.toNat := by
  rw [← claimBytes_eq, ← flagByte_eq, ← faultMask_eq]
  simp only [statusPayload, List.append_assoc]

theorem exec_getStatus {p : Port} {tag : Byte} {s : State} (hasks : Asks .getStatus p tag [] s) :
    exec (.getStatus p) s =
      .next (answered .getStatus p tag [] { code := .ok, payload := statusPayload s } s) :=
  exec_reading (f := fun _ _ s => okWith (statusPayload s)) rfl hasks rfl rfl

theorem exec_getHotlist {p : Port} {tag : Byte} {s : State} (hasks : Asks .getHotlist p tag [] s) :
    exec (.getHotlist p) s = .next (answered .getHotlist p tag [] (okWith (hotListPayload s)) s) :=
  exec_reading (f := fun _ _ s => okWith (hotListPayload s)) rfl hasks rfl rfl

/-- Settles O9: the status payload part by part, and the hot list payload entry by entry. -/
theorem statusAndHotListReported : Obligations.StatusAndHotListReported := by
  refine ⟨fun p tag s hasks => ⟨statusPayload s, exec_getStatus hasks, length_statusPayload s, ?status⟩,
    fun p tag s hasks => (exec_getHotlist hasks).trans ?hotList⟩
  case status =>
    rw [statusPayload_eq]
    congr 7
    · congr 1
      cases s.edit with
      | none => rfl
      | some e => cases hholder : e.holder <;> simp [claimBytes, hholder, holderCode]
    · cases s.store with
      | none => rfl
      | some x => cases hstage : x.stage <;> simp [storeCode, hstage]
  case hotList =>
    refine congrArg (fun entry => Host.Outcome.next (answered .getHotlist p tag [] (okWith
      (be32 s.completed.toNat ++ byte1 s.hotList.length ++ be16 s.unlisted ++ s.hotList.flatMap entry)) s))
      (funext fun i => congrArg (hotListForm i (s.alarms.get i)) ?_)
    unfold publishedRecord
    cases s.published.get (passOf i) <;> rfl

/-! ### GET_CELL and GET_PASS (R85, R86) -/

theorem exec_getCell {p : Port} {tag hi lo : Byte} {s : State} (hasks : Asks .getCell p tag [hi, lo] s) :
    exec (.getCell p) s = .next (answered .getCell p tag [hi, lo]
      ((existingCell? s.active.config (read16 hi lo)).elim (codeOnly .noCell) fun i => okWith (cellPayload i s)) s) := by
  refine (exec_reading rfl hasks rfl rfl).trans ?_
  simp only [payload16]
  cases existingCell? s.active.config (read16 hi lo) <;> rfl

theorem exec_getPass {p : Port} {tag b : Byte} {s : State} (hasks : Asks .getPass p tag [b] s) :
    exec (.getPass p) s = .next (answered .getPass p tag [b]
      ((passIx? b.toNat).elim (codeOnly .range) fun q =>
        if passUsed s.active.config q then okWith (passPayload q s) else codeOnly .noCell) s) := by
  refine (exec_reading rfl hasks rfl rfl).trans ?_
  simp only [payload8]
  cases passIx? b.toNat <;> rfl

theorem cellPayload_eq (i : CellIx) (s : State) :
    cellPayload i s = be16 i.1 ++
      (match s.published.get (passOf i) with
        | none => be32 0 ++ be16 s.active.generation.toNat ++
            cellRecordForm CellRecord.unpublished (s.alarms.get i)
        | some x => be32 x.sweep.toNat ++ be16 x.generation.toNat ++
            cellRecordForm (x.records.get (placeOf i)) (s.alarms.get i)) ++
      alarmForm (s.alarms.get i) := by
  unfold cellPayload publicationSweep publicationGeneration publishedRecord
  cases s.published.get (passOf i) <;> simp only [List.append_assoc]

theorem passUsed_eq_false {c : Configuration} {q : PassIx} (h : (c.passes.get q).tubeCount = 0) :
    passUsed c q = false := by
  simp [passUsed, h]

theorem passUsed_eq_true {c : Configuration} {q : PassIx} (h : 1 ≤ (c.passes.get q).tubeCount) :
    passUsed c q = true := decide_eq_true h

theorem blankCopy_get (k : Fin 80) : blankCopy.get k = CellRecord.unpublished := get_replicate _ _ k

/-- The publication GET_PASS reports is the latest, or stands for none. -/
theorem reportedPublication_cases (s : State) (q : PassIx) :
    s.published.get q = some (reportedPublication s q) ∨
      s.published.get q = none ∧ reportedPublication s q = publicationOf s 0#32 q blankCopy := by
  unfold reportedPublication
  cases h : s.published.get q with
  | none => exact .inr ⟨rfl, rfl⟩
  | some x => exact .inl rfl

/-- Settles O10: the cell or the pass that the payload names, and the publication reported of it. -/
theorem cellsAndPassesReported : Obligations.CellsAndPassesReported := by
  refine ⟨fun p tag hi lo s hasks => ⟨fun hnone => ?noCell, fun i hi' hcell => ?cell⟩,
    fun p tag b s hasks => ⟨fun hlarge => ?range, fun q hq => ⟨fun hunused => ?unused, fun hused => ?pass⟩⟩⟩
  case noCell => rw [exec_getCell hasks, read16, (existingCell?_none _ _).2 hnone]; rfl
  case cell => rw [exec_getCell hasks, read16, (existingCell?_some _ _ i).2 ⟨hi', hcell⟩, Option.elim, cellPayload_eq]; rfl
  case range => rw [exec_getPass hasks, (passIx?_none _).2 hlarge]; rfl
  case unused => rw [exec_getPass hasks, (passIx?_some _ q).2 hq, Option.elim, passUsed_eq_false hunused]; rfl
  case pass =>
    refine ⟨reportedPublication s q, (reportedPublication_cases s q).imp_right ?_, ?_⟩
    · rintro ⟨hnone, hreported⟩
      rw [hreported]
      exact ⟨hnone, rfl, rfl, rfl, rfl, blankCopy_get⟩
    · rw [exec_getPass hasks, (passIx?_some _ q).2 hq, Option.elim, passUsed_eq_true hused]
      rfl

end Sys2Proof.Proofs.Reports

/-! PROOF. The line, the pass state and the notices that requests read, and the fault bank's requests (R42, R131, R157,
R158, R168, R169). -/
namespace Sys2Proof.Proofs.Readouts
open Sys2Proof Sys2Proof.Machine Sys2Proof.Proofs.ScanBatches Sys2Proof.Proofs.Catalogue Sys2Proof.Proofs.Reports

/-- The first index at which a test holds. -/
theorem find?_finRange_eq_some {n : Nat} {test : Fin n → Bool} {i : Fin n} (hi : test i = true)
    (hmin : ∀ j : Fin n, j.1 < i.1 → test j = false) : (List.finRange n).find? test = some i := by
  refine List.find?_eq_some_iff_getElem.2 ⟨hi, i.1, by simp, by simp, fun j hj => ?_⟩
  simpa using hmin ⟨j, by omega⟩ hj

theorem find?_finRange_eq_none {n : Nat} {test : Fin n → Bool} (h : ∀ i, test i = false) :
    (List.finRange n).find? test = none :=
  List.find?_eq_none.2 fun i _ => by simp [h i]

/-! ### GET_LINE (R3, R42) -/

theorem slotOf_eq_zero {l : LineIx} : slotOf l = 0 ↔ l.1 % 16 = 0 := by
  rw [Fin.ext_iff]
  rfl

theorem namesLine_iff {e : CellEntry} {l : LineIx} : namesLine e l = true ↔ ∃ item ∈ e.sources, item.line = l.1 := by
  simp [namesLine]

theorem namesLine_eq_false {e : CellEntry} {l : LineIx} :
    namesLine e l = false ↔ ∀ item ∈ e.sources, item.line ≠ l.1 := by
  simp [namesLine]

theorem servedCell_of_reference {c : Configuration} {l : LineIx} (h : l.1 % 16 = 0) : servedCell c l = none :=
  if_pos (slotOf_eq_zero.2 h)

theorem servedCell_of_unfitted {c : Configuration} {l : LineIx} (h : (c.lines.get l).fitted = false) :
    servedCell c l = none := by
  simp [servedCell, h]

theorem servedCell_of_skin {c : Configuration} {l : LineIx} (hslot : l.1 % 16 ≠ 0)
    (hfitted : (c.lines.get l).fitted = true) :
    servedCell c l = (List.finRange 640).find? fun i => cellExists c i && namesLine (c.cells.get i) l := by
  rw [servedCell, if_neg (mt slotOf_eq_zero.1 hslot), if_pos hfitted]

theorem servedCell_of_unnamed {c : Configuration} {l : LineIx}
    (h : ∀ i, cellExists c i = true → ∀ item ∈ (c.cells.get i).sources, item.line ≠ l.1) : servedCell c l = none := by
  by_cases hslot : l.1 % 16 = 0
  · exact servedCell_of_reference hslot
  · cases hfitted : (c.lines.get l).fitted with
    | false => exact servedCell_of_unfitted hfitted
    | true =>
      rw [servedCell_of_skin hslot hfitted]
      refine find?_finRange_eq_none fun i => ?_
      cases hcell : cellExists c i with
      | false => rfl
      | true => exact namesLine_eq_false.2 (h i hcell)

theorem servedCell_of_first {c : Configuration} {l : LineIx} {i : CellIx} (hslot : l.1 % 16 ≠ 0)
    (hfitted : (c.lines.get l).fitted = true) (hcell : cellExists c i = true)
    (hnames : ∃ item ∈ (c.cells.get i).sources, item.line = l.1)
    (hfirst : ∀ j, j.1 < i.1 → cellExists c j = true → ∀ item ∈ (c.cells.get j).sources, item.line ≠ l.1) :
    servedCell c l = some i := by
  rw [servedCell_of_skin hslot hfitted]
  refine find?_finRange_eq_some (by simp [hcell, namesLine_iff.2 hnames]) fun j hj => ?_
  cases hother : cellExists c j with
  | false => rfl
  | true => exact namesLine_eq_false.2 (hfirst j hj hother)

theorem cellExists_iff {c : Configuration} {i : CellIx} {q : PassIx} (hq : q.1 = i.1 / 80) :
    cellExists c i = true ↔
      i.1 % 80 / 4 < (c.passes.get q).tubeCount ∧ i.1 % 4 < (c.passes.get q).levelCount := by
  obtain rfl : q = passOf i := Fin.ext hq
  exact decide_eq_true_iff

theorem exec_getLine {p : Port} {tag b : Byte} {s : State} (hp : p ≠ .trip) (hasks : Asks .getLine p tag [b] s) :
    exec (.getLine p) s = .next (answered .getLine p tag [b]
      ((lineIx? b.toNat).elim (codeOnly .range) fun l => okWith (linePayload l s)) s) := by
  refine (exec_reading rfl hasks (decide_eq_true hp) rfl).trans ?_
  simp only [payload8]
  cases lineIx? b.toNat <;> rfl

/-- The served cell of a line as GET_LINE carries it. -/
theorem servedBytes_eq (c : Configuration) (l : LineIx) :
    flagByte (lineUsed c l) :: optIndexBytes ((servedCell c l).map fun i => i.1) =
      (servedCell c l).elim (byte1 0 ++ be16 0xFFFF) fun i => byte1 1 ++ be16 i.1 := by
  rw [lineUsed]
  cases servedCell c l <;> rfl

theorem linePayload_eq (l : LineIx) (s : State) :
    linePayload l s =
      byte1 l.1 ++ byte1 (if l.1 % 16 = 0 then 1 else 0) ++
        byte1 (if (s.active.config.lines.get l).fitted then 1 else 0) ++
        (servedCell s.active.config l).elim (byte1 0 ++ be16 0xFFFF) (fun i => byte1 1 ++ be16 i.1) ++
        readingForm (s.readings.get l) ++ byte1 (if (s.groups.get (groupOf l)).parked then 1 else 0) ++
        byte1 (refStatusCode (s.groups.get (groupOf l)).refStatus) ++
        lastReferenceBytes s.timebase.partTime (s.groups.get (groupOf l)).lastRef := by
  rw [← servedBytes_eq, ← flagByte_eq, ← flagByte_eq, linePayload]
  simp only [slotOf_eq_zero, List.append_assoc, List.cons_append, List.nil_append]

/-- Settles O11: the line that the payload names, and the served cell as the first that names it. -/
theorem getLineReports : Obligations.GetLineReports := by
  refine ⟨fun p tag b s hp hasks => ⟨fun hlarge => ?range, fun l hl => ?line⟩, fun c l => ⟨?none, ?first⟩,
    fun c i q hq => cellExists_iff hq⟩
  case range => rw [exec_getLine hp hasks, (lineIx?_none _).2 hlarge]; rfl
  case line =>
    rw [exec_getLine hp hasks, (lineIx?_some _ l).2 hl, Option.elim, linePayload_eq]
    cases servedCell s.active.config l <;> cases (s.groups.get (groupOf l)).lastRef <;> rfl
  case none =>
    rintro (hslot | hfitted | hunnamed)
    · exact servedCell_of_reference hslot
    · exact servedCell_of_unfitted hfitted
    · exact servedCell_of_unnamed hunnamed
  case first => exact fun i => servedCell_of_first

/-! ### GET_PASSINFO (R131) -/

theorem exec_getPassinfo {p : Port} {tag b : Byte} {s : State} (hasks : Asks .getPassinfo p tag [b] s) :
    exec (.getPassinfo p) s = .next (answered .getPassinfo p tag [b]
      ((passIx? b.toNat).elim (codeOnly .range) fun q =>
        if passUsed s.active.config q then okWith (passInfoPayload q s) else codeOnly .noCell) s) := by
  refine (exec_reading rfl hasks rfl rfl).trans ?_
  simp only [payload8]
  cases passIx? b.toNat <;> rfl

/-- The two limits in force, as one of the two pairs of the record. -/
theorem limitsInForce_eq (r : PassRecord) (st : PassState) :
    be16 (highInForce r st) ++ be16 (highHighInForce r st) =
      if st = .spall then be16 r.spallHigh ++ be16 r.spallHighHigh else be16 r.high ++ be16 r.highHigh := by
  unfold highInForce highHighInForce
  split <;> rfl

theorem spallMinutes_eq (x : PassService) :
    spallMinutes x = if x.state = .spall then x.spallTimer.elim 0 fun t => t / 60000 else 0 := by
  obtain ⟨state, target, timer, told⟩ := x
  cases state <;> cases timer <;> rfl

theorem passInfoPayload_eq (q : PassIx) (s : State) (x : PassService) (r : PassRecord) (hx : x = s.passes.get q)
    (hr : r = s.active.config.passes.get q) :
    passInfoPayload q s =
      byte1 q.1 ++ byte1 (passStateCode x.state) ++
        optCodeByte (x.target.map passStateCode) ++
        (if x.state = .spall then be16 r.spallHigh ++ be16 r.spallHighHigh else be16 r.high ++ be16 r.highHigh) ++
        be16 r.deadband ++ be16 r.rateLimit ++ byte1 (if x.state = .online then 1 else 0) ++
        be16 (if x.state = .spall then x.spallTimer.elim 0 fun t => t / 60000 else 0) ++
        byte1 (if x.overdueNotified then 1 else 0) ++ be32 (publicationSweep s q) := by
  rw [← limitsInForce_eq, ← spallMinutes_eq, ← flagByte_eq]
  have honline : byte1 (if x.state = .online then 1 else 0) = [flagByte (decide (x.state = .online))] := by
    simp [flagByte_eq]
  subst hx hr
  simp only [honline, passInfoPayload, passStateBytes, List.append_assoc]

/-- Settles O12: the pass that the payload names, and its state part by part. -/
theorem getPassinfoReports : Obligations.GetPassinfoReports := by
  refine fun p tag b s hasks => ⟨fun hlarge => ?range, fun q hq x r hx hr => ⟨fun hunused => ?unused, fun hused => ?used⟩⟩
  case range => rw [exec_getPassinfo hasks, (passIx?_none _).2 hlarge]; rfl
  case unused =>
    rw [exec_getPassinfo hasks, (passIx?_some _ q).2 hq, Option.elim, passUsed_eq_false (hr ▸ hunused)]
    rfl
  case used =>
    rw [exec_getPassinfo hasks, (passIx?_some _ q).2 hq, Option.elim, passUsed_eq_true (hr ▸ hused),
      passInfoPayload_eq q s x r hx hr, publicationSweep]
    cases x.target <;> cases x.spallTimer <;> cases s.published.get q <;> rfl

/-! ### GET_NOTICES (R157, R158) -/

theorem attention_iff (p : Port) (s : State) :
    s.attention p = true ↔ s.stage = .running ∧ (s.ports.get p).notices ≠ NoticeSet.empty := by
  simp [State.attention, State.running, anyNotice]

theorem noticeWord_eq (f : NoticeSet) (bit : Bool → Nat → Nat) (hbit : ∀ b n, bit b n = if b then 2 ^ n else 0) :
    noticeWord f = bit f.alarmChange 0 + bit f.faultNew 1 + bit f.configApplied 2 + bit f.commitDropped 3 +
      bit f.claimExpired 4 + bit f.storeDone 5 + bit f.storeFailed 6 + bit f.scanExpired 7 + bit f.spallOverdue 8 +
      bit f.timebaseChange 9 + bit f.restarted 10 := by
  simp only [noticeWord, hbit, weight, Nat.reducePow]

/-- Settles O13: the answer carries the set and leaves it empty, and a notice sets one flag of one port. -/
theorem getNoticesEmptiesSet : Obligations.GetNoticesEmptiesSet := by
  refine ⟨fun p tag s hasks f bit hf hbit => ⟨_, exec_of_length_eq (k := .getNotices) hasks rfl rfl, rfl, ?port, ?others,
    ?line⟩, fun n p s t f hf ht => ⟨?frame, ?rest, ?flag⟩, fun p s => attention_iff p s⟩
  case port =>
    subst hf
    rw [← noticeWord_eq _ bit hbit]
    simp [answered, ownerOf, ownGetNotices, State.setPort, kindByte, okWith, NoticeSet.empty]
  case others =>
    intro q hq
    simp [answered, ownerOf, ownGetNotices, State.setPort, port_set_get_ne _ _ _ _ hq.symm]
  case line =>
    refine Bool.eq_false_iff.2 fun hattention => ((attention_iff _ _).1 hattention).2 ?_
    simp [answered, ownerOf, ownGetNotices, State.setPort]
  case frame => subst ht; rfl
  case rest => subst ht; exact fun q hq => port_set_get_ne _ _ _ _ hq.symm
  case flag =>
    subst ht hf
    rw [notify, State.setPort, port_set_get_self]
    cases n <;> rfl

/-! ### The fault bank (R168, R169) -/

theorem exec_clearFaults {tag b : Byte} {s : State} (hasks : Asks .clearFaults .service tag [b] s) :
    exec (.clearFaults .service) s = .next (answered .clearFaults .service tag [b]
      (ownClearFaults .service [b] s).2 (ownClearFaults .service [b] s).1) :=
  exec_of_length_eq hasks rfl rfl

theorem ownClearFaults_of_source {p : Port} {b : Byte} {s : State} {n : Fin 15} (h : n.1 = b.toNat) :
    ownClearFaults p [b] s = ({ s with faults := put s.faults n FaultRecord.empty }, codeOnly .ok) := by
  have hb : b.toNat < 15 := h ▸ n.2
  obtain rfl : n = ⟨b.toNat, hb⟩ := Fin.ext h
  exact dif_pos hb

theorem ownClearFaults_of_all {p : Port} {s : State} :
    ownClearFaults p [0xFF#8] s = ({ s with faults := Vector.replicate 15 FaultRecord.empty }, codeOnly .ok) := rfl

theorem ownClearFaults_of_other {p : Port} {b : Byte} {s : State} (h : 15 ≤ b.toNat) (hall : b ≠ 0xFF#8) :
    ownClearFaults p [b] s = (s, codeOnly .range) := by
  have hne : b.toNat ≠ 255 := fun h => hall (BitVec.eq_of_toNat_eq h)
  exact (dif_neg (Nat.not_lt.2 h)).trans (if_neg hne)

/-- Settles O14: the records in source order, and the value that names what is emptied. -/
theorem faultBankReadAndCleared : Obligations.FaultBankReadAndCleared := by
  refine fun p tag b s => ⟨fun hasks => ?read, fun hasks => ⟨fun n hn => ?source, fun hall => ?all,
    fun hlarge hother => ?range⟩⟩
  case read =>
    have hreply : s.faults.toList.flatMap faultForm = (List.finRange 15).flatMap fun n => faultForm (s.faults.get n) := by
      rw [toList_eq_map, List.flatMap_map]
    rw [← hreply]
    exact exec_reading (f := fun _ _ s => okWith (s.faults.toList.flatMap faultForm)) rfl hasks rfl rfl
  case source => rw [exec_clearFaults hasks, ownClearFaults_of_source hn]; rfl
  case all => subst hall; rw [exec_clearFaults hasks, ownClearFaults_of_all]; rfl
  case range => rw [exec_clearFaults hasks, ownClearFaults_of_other hlarge hother]; rfl

end Sys2Proof.Proofs.Readouts

/-! PROOF. The alarm unit: acknowledgement, the effects of a change, the hot list's order, and the record's moves (R101 to
R116). -/
namespace Sys2Proof.Proofs.Alarms
open Sys2Proof Sys2Proof.Machine Sys2Proof.Proofs.ScanBatches Sys2Proof.Proofs.AlarmUnit

/-! ### ACKNOWLEDGE (R108, R109) -/

theorem exec_acknowledge {p : Port} {tag hi lo sev : Byte} {s : State} (hp : p ≠ .service)
    (hasks : Asks .acknowledge p tag [hi, lo, sev] s) :
    exec (.acknowledge p) s = .next (answered .acknowledge p tag [hi, lo, sev]
      (ownAcknowledge p [hi, lo, sev] s).2 (ownAcknowledge p [hi, lo, sev] s).1) :=
  exec_of_length_eq hasks (decide_eq_true hp) rfl

theorem severityOf?_severityCode (v : Severity) : severityOf? (BitVec.ofNat 8 (severityCode v)) = some v := by
  cases v <;> rfl

theorem severityCode_injective : Function.Injective severityCode := fun v w h =>
  Option.some.inj (by rw [← severityOf?_severityCode v, h, severityOf?_severityCode])

theorem ownAcknowledge_of_unnamed {p : Port} {hi lo sev : Byte} {s : State}
    (h : sev ≠ 1#8 ∧ sev ≠ 2#8 ∧ sev ≠ 3#8) : ownAcknowledge p [hi, lo, sev] s = (s, codeOnly .range) := by
  obtain ⟨hrate, hhigh, hhighHigh⟩ := h
  have hnamed : severityOf? sev = none ∨ severityOf? sev = some .none := by
    simp only [severityOf?, hrate, hhigh, hhighHigh, if_false]
    split
    · exact .inr rfl
    · exact .inl rfl
  obtain h | h := hnamed <;> simp only [ownAcknowledge, h]

theorem ownAcknowledge_of_denied {p : Port} {hi lo : Byte} {s : State} (hp : p ≠ .trip) :
    ownAcknowledge p [hi, lo, 3#8] s = (s, codeOnly .denied) := by
  have hnamed : severityOf? 3#8 = some .highHigh := rfl
  simp [ownAcknowledge, hnamed, hp]

/-- The severity that an admitted acknowledgement names. -/
theorem severityOf?_admitted {p : Port} {sev : Byte} (h : sev = 1#8 ∨ sev = 2#8 ∨ sev = 3#8 ∧ p = .trip) :
    ∃ named, severityOf? sev = some named ∧ named ≠ .none ∧ severityCode named = sev.toNat ∧
      (named = .highHigh → p = .trip) := by
  obtain rfl | rfl | ⟨rfl, hp⟩ := h
  · exact ⟨.rate, rfl, by decide, rfl, by simp⟩
  · exact ⟨.high, rfl, by decide, rfl, by simp⟩
  · exact ⟨.highHigh, rfl, by decide, rfl, fun _ => hp⟩

theorem ownAcknowledge_of_named {p : Port} {hi lo sev : Byte} {named : Severity} {s : State}
    (hnamed : severityOf? sev = some named) (hnone : named ≠ .none) (hport : named = .highHigh → p = .trip) :
    ownAcknowledge p [hi, lo, sev] s =
      (existingCell? s.active.config (read16 hi lo)).elim (s, codeOnly .noCell) fun i => acknowledgeCell i named s := by
  have hadmitted : ¬(named = .highHigh ∧ p ≠ .trip) := fun h => h.2 (hport h.1)
  cases named with
  | none => exact absurd rfl hnone
  | rate | high | highHigh =>
    unfold ownAcknowledge
    dsimp only
    rw [hnamed]
    dsimp only
    rw [if_neg hadmitted]
    cases existingCell? s.active.config (read16 hi lo) <;> rfl

theorem acknowledgeCell_of_quiet {i : CellIx} {s : State} (named : Severity)
    (h : (s.alarms.get i).state = .idle ∨ (s.alarms.get i).state = .held) :
    acknowledgeCell i named s = (s, { code := .nothingToAck, payload := alarmForm (s.alarms.get i) }) := by
  obtain h | h := h <;> simp only [acknowledgeCell, h]

theorem acknowledgeCell_of_standing {i : CellIx} {s : State} (named : Severity)
    (h : (s.alarms.get i).state = .raised ∨ (s.alarms.get i).state = .lingering) :
    acknowledgeCell i named s =
      if named = (s.alarms.get i).severity then
        (changeAlarm i (moveAcknowledged (s.alarms.get i)) s, okWith (alarmForm (moveAcknowledged (s.alarms.get i))))
      else (s, { code := .ackMismatch, payload := alarmForm (s.alarms.get i) }) := by
  obtain h | h := h <;> simp only [acknowledgeCell, h]

theorem moveAcknowledged_of_raised {a : AlarmRecord} (h : a.state = .raised) :
    moveAcknowledged a = { a with state := .held, restored := false } := by
  simp only [moveAcknowledged, h]

theorem moveAcknowledged_of_lingering {a : AlarmRecord} (h : a.state = .lingering) :
    moveAcknowledged a = AlarmRecord.idleRecord := by
  simp only [moveAcknowledged, h]

/-- Settles O16: the tests in order, each a lemma about the owner. -/
theorem acknowledgeJudged : Obligations.AcknowledgeJudged := by
  intro p tag hi lo sev s hp hasks
  rw [exec_acknowledge hp hasks]
  refine ⟨fun h => ?range, fun ⟨hsev, hcontrol⟩ => ?denied, fun hsev => ?judged⟩
  case range => rw [ownAcknowledge_of_unnamed h]; rfl
  case denied => subst hsev hcontrol; rw [ownAcknowledge_of_denied (by decide)]; rfl
  case judged =>
    obtain ⟨named, hnamed, hnone, hcode, hport⟩ := severityOf?_admitted hsev
    rw [ownAcknowledge_of_named hnamed hnone hport, read16]
    refine ⟨fun hno => ?noCell, fun i hi' hcell a ha => ?cell⟩
    case noCell => rw [(existingCell?_none _ _).2 hno]; rfl
    case cell =>
      rw [(existingCell?_some _ _ i).2 ⟨hi', hcell⟩, Option.elim]
      subst ha
      refine ⟨fun hquiet => ?_, fun hstanding hne => ?_, fun hraised heq => ?_, fun hlingering heq => ?_⟩
      · rw [acknowledgeCell_of_quiet named hquiet]
      · rw [← hcode] at hne
        rw [acknowledgeCell_of_standing named hstanding, if_neg fun h => hne (congrArg severityCode h.symm)]
      · rw [← hcode] at heq
        rw [acknowledgeCell_of_standing named (.inl hraised), if_pos (severityCode_injective heq.symm),
          moveAcknowledged_of_raised hraised]
        rfl
      · rw [← hcode] at heq
        rw [acknowledgeCell_of_standing named (.inr hlingering), if_pos (severityCode_injective heq.symm),
          moveAcknowledged_of_lingering hlingering]
        rfl

/-! ### The effects of a change (R107, R113, R115, R116) -/

theorem cellAt_passOf_placeOf (i : CellIx) : cellAt (passOf i) (placeOf i) = i :=
  Fin.ext (by simp only [cellAt, passOf, placeOf]; omega)

/-- A pass's line follows the records of its cells among the 640. -/
theorem passAlarmed_eq_any (alarms : Vector AlarmRecord 640) (p : PassIx) :
    passAlarmed alarms p = (List.finRange 640).any fun j =>
      decide (passOf j = p ∧ (alarms.get j).state ≠ .idle ∧ (alarms.get j).severity = .highHigh) := by
  rw [Bool.eq_iff_iff, passAlarmed, List.any_eq_true, List.any_eq_true]
  constructor
  · rintro ⟨k, _, hk⟩
    exact ⟨cellAt p k, List.mem_finRange _, decide_eq_true ⟨passOf_cellAt p k, of_decide_eq_true hk⟩⟩
  · rintro ⟨j, _, hj⟩
    obtain ⟨rfl, halarmed⟩ := of_decide_eq_true hj
    exact ⟨placeOf j, List.mem_finRange _, decide_eq_true (by rwa [cellAt_passOf_placeOf])⟩

/-- Settles O17: `changeAlarm` by its two cases. -/
theorem alarmChangeEffects : Obligations.AlarmChangeEffects := by
  refine fun i a s => ⟨fun hsame => ?same, fun hne alarms halarms => ?changed⟩
  case same => subst hsame; exact changeAlarm_same i s
  case changed =>
    rw [changeAlarm_of_ne hne.symm, ← passAlarmed_eq_any]
    subst halarms
    simp only [rebuildHotList, hotListLimit, driveAlert]
    generalize rankedCells (put s.alarms i a) = ranked
    generalize passAlarmed (put s.alarms i a) (passOf i) = line
    rfl

/-! ### The order of the hot list (R112) -/

/-- The order of two cells: severity, state, peak, index. -/
def Precedes (alarms : Vector AlarmRecord 640) (i j : CellIx) : Prop :=
  severityRank (alarms.get j).severity < severityRank (alarms.get i).severity ∨
    severityRank (alarms.get i).severity = severityRank (alarms.get j).severity ∧
      (stateRank (alarms.get j).state < stateRank (alarms.get i).state ∨
        stateRank (alarms.get i).state = stateRank (alarms.get j).state ∧
          (peakKey (alarms.get j).peak < peakKey (alarms.get i).peak ∨
            peakKey (alarms.get i).peak = peakKey (alarms.get j).peak ∧ i.1 < j.1))

theorem ranksBefore_iff {alarms : Vector AlarmRecord 640} {i j : CellIx} :
    ranksBefore i (alarms.get i) j (alarms.get j) = true ↔ Precedes alarms i j := by
  unfold ranksBefore Precedes
  split
  · rw [decide_eq_true_iff]; omega
  · split
    · rw [decide_eq_true_iff]; omega
    · split
      · rw [decide_eq_true_iff]; omega
      · rw [decide_eq_true_iff]; omega

theorem Precedes.trans {alarms : Vector AlarmRecord 640} {i j k : CellIx} (hij : Precedes alarms i j)
    (hjk : Precedes alarms j k) : Precedes alarms i k := by
  unfold Precedes at *
  omega

theorem precedes_total {alarms : Vector AlarmRecord 640} {i j : CellIx} (hne : i ≠ j) :
    Precedes alarms i j ∨ Precedes alarms j i := by
  have hval : i.1 ≠ j.1 := fun h => hne (Fin.ext h)
  unfold Precedes
  omega

theorem mem_insertRanked {alarms : Vector AlarmRecord 640} {i k : CellIx} {l : List CellIx} :
    k ∈ insertRanked alarms i l ↔ k = i ∨ k ∈ l := by
  induction l with
  | nil => simp [insertRanked]
  | cons j l ih =>
    unfold insertRanked
    split
    · simp
    · simp only [List.mem_cons, ih]
      exact or_left_comm

theorem pairwise_insertRanked {alarms : Vector AlarmRecord 640} {i : CellIx} {l : List CellIx}
    (hl : l.Pairwise (Precedes alarms)) (hi : i ∉ l) : (insertRanked alarms i l).Pairwise (Precedes alarms) := by
  induction l with
  | nil => simp [insertRanked]
  | cons j l ih =>
    obtain ⟨hj, hrest⟩ := List.pairwise_cons.1 hl
    obtain ⟨hij, hi'⟩ := List.ne_and_not_mem_of_not_mem_cons hi
    unfold insertRanked
    split
    · next hbefore =>
      have hprecedes := ranksBefore_iff.1 hbefore
      refine List.pairwise_cons.2 ⟨fun k hk => ?_, hl⟩
      obtain rfl | hk := List.mem_cons.1 hk
      · exact hprecedes
      · exact hprecedes.trans (hj k hk)
    · next hbefore =>
      have hji : Precedes alarms j i := (precedes_total hij).resolve_left (mt ranksBefore_iff.2 hbefore)
      refine List.pairwise_cons.2 ⟨fun k hk => ?_, ih hrest hi'⟩
      obtain rfl | hk := mem_insertRanked.1 hk
      · exact hji
      · exact hj k hk

theorem mem_foldr_insertRanked {alarms : Vector AlarmRecord 640} {k : CellIx} {l : List CellIx} :
    k ∈ l.foldr (insertRanked alarms) [] ↔ k ∈ l := by
  induction l with
  | nil => rfl
  | cons i l ih => rw [List.foldr_cons, mem_insertRanked, ih, List.mem_cons]

theorem pairwise_foldr_insertRanked {alarms : Vector AlarmRecord 640} {l : List CellIx} (hl : l.Nodup) :
    (l.foldr (insertRanked alarms) []).Pairwise (Precedes alarms) := by
  induction l with
  | nil => exact List.Pairwise.nil
  | cons i l ih =>
    obtain ⟨hi, hrest⟩ := List.nodup_cons.1 hl
    exact pairwise_insertRanked (ih hrest) (mt mem_foldr_insertRanked.1 hi)

theorem mem_rankedCells {alarms : Vector AlarmRecord 640} {i : CellIx} :
    i ∈ rankedCells alarms ↔ (alarms.get i).state ≠ .idle := by
  simp [rankedCells, mem_foldr_insertRanked, alarmedCells]

theorem pairwise_rankedCells (alarms : Vector AlarmRecord 640) : (rankedCells alarms).Pairwise (Precedes alarms) :=
  pairwise_foldr_insertRanked ((List.nodup_finRange 640).filter _)

theorem Precedes.ne {alarms : Vector AlarmRecord 640} {i j : CellIx} (h : Precedes alarms i j) : i ≠ j := by
  rintro rfl
  unfold Precedes at h
  omega

/-- Outside IDLE, the key of a state is 0 for HELD alone. -/
theorem stateRank_of_ne_idle {st : AlarmState} (h : st ≠ .idle) : stateRank st = if st = .held then 0 else 1 := by
  cases st with
  | idle => exact absurd rfl h
  | raised | held | lingering => rfl

/-- Settles O18: the insertion keeps a strict order that any two cells are in. -/
theorem hotListOrder : Obligations.HotListOrder := by
  refine ⟨fun alarms => ⟨?nodup, fun i => mem_rankedCells, ?order⟩, by decide, fun _ => rfl, rfl⟩
  case nodup => exact (pairwise_rankedCells alarms).imp Precedes.ne
  case order =>
    refine (pairwise_rankedCells alarms).imp_of_mem fun {i j} hi hj h => ?_
    have hirank := stateRank_of_ne_idle (mem_rankedCells.1 hi)
    have hjrank := stateRank_of_ne_idle (mem_rankedCells.1 hj)
    unfold Precedes at h
    rw [hirank, hjrank] at h
    refine h.imp_right fun ⟨hseverity, h⟩ => ⟨hseverity, ?_⟩
    by_cases hiheld : (alarms.get i).state = .held
    · by_cases hjheld : (alarms.get j).state = .held
      · simpa [hiheld, hjheld] using h
      · simp [hiheld, hjheld] at h
    · by_cases hjheld : (alarms.get j).state = .held
      · simp [hiheld, hjheld] at h ⊢
      · simpa [hiheld, hjheld] using h

/-! ### The record's moves (R101 to R106) -/

theorem rateRaises_eq (h : HandOff) :
    rateRaises h = true ↔ h.passState ≠ .spall ∧ h.rate.any (fun r => decide (h.rateLimit ≤ r)) = true := by
  unfold rateRaises
  cases h.rate <;> simp

theorem rateHolds_eq (h : HandOff) :
    rateHolds h = true ↔
      h.passState ≠ .spall ∧ h.rate.any (fun r => decide (3 * h.rateLimit ≤ 4 * r)) = true := by
  unfold rateHolds
  cases h.rate <;> simp

theorem testSeverity_eq (h : HandOff) (e : Int) :
    testSeverity h e =
      if h.highHigh ≤ e then .highHigh
      else if h.high ≤ e then .high
      else if h.passState ≠ .spall ∧ h.rate.any (fun r => decide (h.rateLimit ≤ r)) = true then .rate
      else .none := by
  simp only [testSeverity, rateRaises_eq]

theorem conditionSeverity_of_le {h : HandOff} {e : Int} {before : Severity}
    (hle : severityRank before ≤ severityRank (testSeverity h e)) :
    conditionSeverity h e before = testSeverity h e := if_pos hle

theorem conditionSeverity_of_lt {h : HandOff} {e : Int} {before : Severity}
    (hlt : severityRank (testSeverity h e) < severityRank before) :
    conditionSeverity h e before = if holdTest h e before then before else testSeverity h e :=
  if_neg (Nat.not_le.2 hlt)

theorem raisePeak_eq (peak : Option Int) (e : Int) : raisePeak peak e = some (peak.elim e fun q => max q e) := by
  cases peak with
  | none => rfl
  | some q =>
    simp only [raisePeak, Option.elim]
    split
    · rw [Int.max_eq_right (by omega)]
    · rw [Int.max_eq_left (by omega)]

theorem moveRecord_of_known {h : HandOff} {a : AlarmRecord} (hknown : knownQuality h.quality = true) :
    moveRecord h a =
      h.estimate.elim a fun e => moveKnown h.sweep e (conditionSeverity h e a.condition) a := by
  rw [moveRecord, if_pos hknown]
  cases h.estimate <;> rfl

theorem moveRecord_of_unknown {h : HandOff} {a : AlarmRecord} (hunknown : knownQuality h.quality = false) :
    moveRecord h a = moveUnknown h.passState a := by
  simp [moveRecord, hunknown]

/-- Settles O19: the condition by its two comparisons, the nine rows by the record's state. -/
theorem alarmRecordMoves : Obligations.AlarmRecordMoves := by
  refine ⟨fun h e before t ht => ?condition, fun k e c a st peak hpeak => ?rows, fun h a => ⟨fun hknown => ?known,
    fun hunknown => ?unknown⟩⟩
  case condition =>
    obtain rfl : testSeverity h e = t := (testSeverity_eq h e).trans ht.symm
    refine ⟨rfl, conditionSeverity_of_le, fun hlt => ?_⟩
    rw [conditionSeverity_of_lt hlt]
    cases before with
    | none => cases hlt
    | rate => simp only [holdTest, rateHolds_eq]
    | high | highHigh => simp only [holdTest, decide_eq_true_eq]
  case rows =>
    have hraise : raisePeak a.peak e = peak := by rw [hpeak, raisePeak_eq]; cases a.peak <;> rfl
    have hheld : moveUnknown st a = if a.state = .held ∧ st = .offline then AlarmRecord.idleRecord else a := rfl
    unfold moveKnown
    rw [hraise]
    refine ⟨fun hstate hc => ?_, fun hstate hc => ?_, fun hstate hc => ?_, fun hstate hc => ?_, fun hstate hc => ?_,
      fun hstate hc hle => ?_, fun hstate hc => ?_, fun hstate hc => ?_, fun hstate hc => ?_, fun hstate hst => ?_,
      fun hnot => ?_⟩
    · simp only [hstate, if_pos hc]
    · simp only [hstate, if_neg hc]
    · simp only [hstate, if_neg hc]
    · simp only [hstate, hc, if_true]
    · have hne : c ≠ .none := by rintro rfl; exact absurd hc (Nat.not_lt_zero _)
      simp only [hstate, if_neg hne, if_pos hc]
    · simp only [hstate, if_neg hc, if_neg (Nat.not_lt.2 hle)]
    · simp only [hstate, if_pos hc]
    · simp only [hstate, if_neg hc]
    · simp only [hstate, hc, if_true]
    · rw [hheld, if_pos ⟨hstate, hst⟩]
    · rw [hheld, if_neg fun h => hnot.elim (fun hn => hn h.1) fun hn => hn h.2]
  case known =>
    have hquality : knownQuality h.quality = true := by
      obtain hq | hq | hq := hknown <;> rw [hq] <;> rfl
    rw [moveRecord_of_known hquality]
    exact ⟨fun e he => by rw [he]; rfl, fun hnone => by rw [hnone]; rfl⟩
  case unknown =>
    refine moveRecord_of_unknown ?_
    obtain hq | hq | hq | hq := hunknown <;> rw [hq] <;> rfl

end Sys2Proof.Proofs.Alarms

/-! PROOF. Pass service states: the requests, the settling at a sweep start, and the spall timer (R125 to R132). -/
namespace Sys2Proof.Proofs.Passes
open Sys2Proof Sys2Proof.Machine Sys2Proof.Proofs.Frames Sys2Proof.Proofs.ScanBatches Sys2Proof.Proofs.Commands
open Sys2Proof.Proofs.Reports

/-! ### A pass record's new value (R132) -/

/-- A change of state or target is written to the hold domain. -/
theorem setPass_of_changed {q : PassIx} {x : PassService} {s : State}
    (h : retainedPass x ≠ retainedPass (s.passes.get q)) :
    setPass q x s = { s with passes := put s.passes q x
                             hold := sealHold { s.hold.contents with
                               passes := put s.hold.contents.passes q (retainedPass x) } } := if_neg h

theorem setPass_of_same {q : PassIx} {x : PassService} {s : State}
    (h : retainedPass x = retainedPass (s.passes.get q)) : setPass q x s = { s with passes := put s.passes q x } :=
  if_pos h

/-! ### SET_PASS_STATE (R125, R126) -/

theorem exec_setPassState {tag n t : Byte} {s : State} (hasks : Asks .setPassState .control tag [n, t] s) :
    exec (.setPassState .control) s = .next (answered .setPassState .control tag [n, t]
      (ownSetPassState .control [n, t] s).2 (ownSetPassState .control [n, t] s).1) :=
  exec_of_length_eq hasks rfl rfl

theorem passStateOf?_none {t : Byte} (h : 3 ≤ t.toNat) : passStateOf? t = none := by
  have h0 : t ≠ 0#8 := by rintro rfl; simp at h
  have h1 : t ≠ 1#8 := by rintro rfl; simp at h
  have h2 : t ≠ 2#8 := by rintro rfl; simp at h
  simp [passStateOf?, h0, h1, h2]

theorem passStateOf?_some {t : Byte} {target : PassState} (h : passStateCode target = t.toNat) :
    passStateOf? t = some target := by
  obtain rfl : t = BitVec.ofNat 8 (passStateCode target) := BitVec.eq_of_toNat_eq (by rw [← h]; cases target <;> rfl)
  cases target <;> rfl

theorem ownSetPassState_of_range {p : Port} {n t : Byte} {s : State} (h : 8 ≤ n.toNat ∨ 3 ≤ t.toNat) :
    ownSetPassState p [n, t] s = (s, codeOnly .range) := by
  obtain h | h := h
  · simp only [ownSetPassState, (passIx?_none _).2 h]
  · simp only [ownSetPassState, passStateOf?_none h]
    cases passIx? n.toNat <;> rfl

theorem ownSetPassState_of_named {p : Port} {n t : Byte} {s : State} {q : PassIx} {target : PassState}
    (hq : q.1 = n.toNat) (htarget : passStateCode target = t.toNat) :
    ownSetPassState p [n, t] s =
      if passUsed s.active.config q then requestTarget q target s else (s, codeOnly .noCell) := by
  simp only [ownSetPassState, (passIx?_some _ q).2 hq, passStateOf?_some htarget]

/-- No state allows itself as a target, so an accepted target changes the retained entry. -/
theorem retainedPass_ne_of_allowed {x : PassService} {target : PassState}
    (h : targetAllowed (referenceState x) target = true) :
    retainedPass { x with target := some target } ≠ retainedPass x := by
  intro hsame
  have htarget : some target = x.target := congrArg RetainedPass.target hsame
  rw [referenceState, ← htarget] at h
  cases target <;> cases h

theorem requestTarget_of_barred {q : PassIx} {target : PassState} {s : State}
    (h : targetAllowed (referenceState (s.passes.get q)) target = false) :
    requestTarget q target s = (s, { code := .badTransition, payload := passStateBytes (s.passes.get q) }) := by
  simp only [requestTarget, h, Bool.not_false, if_true]

theorem requestTarget_of_limit {q : PassIx} {s : State}
    (h : targetAllowed (referenceState (s.passes.get q)) .spall = true)
    (hcount : s.active.config.globals.maxSpall ≤ spallCount s.passes q) :
    requestTarget q .spall s = (s, { code := .spallLimit, payload := passStateBytes (s.passes.get q) }) := by
  simp [requestTarget, h, hcount]

theorem requestTarget_of_accepted {q : PassIx} {target : PassState} {s : State}
    (h : targetAllowed (referenceState (s.passes.get q)) target = true)
    (hcount : target ≠ .spall ∨ spallCount s.passes q < s.active.config.globals.maxSpall) :
    requestTarget q target s =
      (acceptTarget q target s, okWith (passStateBytes { s.passes.get q with target := some target })) := by
  have hlimit : ¬(target = .spall ∧ s.active.config.globals.maxSpall ≤ spallCount s.passes q) := fun ⟨hspall, hle⟩ =>
    hcount.elim (fun hne => hne hspall) (Nat.not_lt.2 hle)
  simp only [requestTarget, h, Bool.not_true, Bool.false_eq_true, if_false, if_neg hlimit]

/-- Settles O20: the tests in order, and an accepted target as a change of the pass's entry. -/
theorem setPassStateJudged : Obligations.SetPassStateJudged := by
  intro tag n t s hasks
  rw [exec_setPassState hasks]
  refine ⟨fun h => ?range, fun q target hq htarget => ⟨fun hunused => ?unused, ?used⟩⟩
  case range => rw [ownSetPassState_of_range h]; rfl
  case unused =>
    rw [ownSetPassState_of_named hq htarget, passUsed_eq_false hunused]
    rfl
  case used =>
    intro hused x reference allowed count hx hreference hallowed hcount
    rw [ownSetPassState_of_named hq htarget, passUsed_eq_true hused, if_pos rfl]
    have hreference' : referenceState x = reference := by rw [hreference, referenceState]; cases x.target <;> rfl
    have hallowed' : targetAllowed (referenceState x) target = allowed := by
      rw [hreference', hallowed]
      cases reference <;> cases target <;> rfl
    have hcount' : spallCount s.passes q = count := hcount.symm
    subst hx
    refine ⟨fun hbarred => ?_, fun hok hspall hlimit => ?_, fun hok hlimit => ?_⟩
    · rw [requestTarget_of_barred (hallowed'.trans hbarred)]
    · subst hspall
      rw [requestTarget_of_limit (hallowed'.trans hok) (hcount' ▸ hlimit)]
    · have haccepted := hallowed'.trans hok
      rw [requestTarget_of_accepted haccepted (hcount' ▸ hlimit), acceptTarget,
        setPass_of_changed (retainedPass_ne_of_allowed haccepted)]
      rfl

/-! ### Settling (R128, R129) -/

theorem settlePass_of_unused {s : State} {q : PassIx} (h : (s.active.config.passes.get q).tubeCount = 0) :
    settlePass s q = setPass q PassService.online s := by
  simp [settlePass, passUsed_eq_false h]

theorem settlePass_of_settled {s : State} {q : PassIx} (h : 1 ≤ (s.active.config.passes.get q).tubeCount)
    (htarget : (s.passes.get q).target = none) : settlePass s q = s := by
  simp only [settlePass, passUsed_eq_true h, if_true, htarget]

theorem settlePass_of_same {s : State} {q : PassIx} {target : PassState}
    (h : 1 ≤ (s.active.config.passes.get q).tubeCount) (htarget : (s.passes.get q).target = some target)
    (hsame : target = (s.passes.get q).state) :
    settlePass s q = setPass q { s.passes.get q with target := none } s := by
  simp only [settlePass, passUsed_eq_true h, if_true, htarget, if_pos hsame]

theorem settlePass_of_entry {s : State} {q : PassIx} {target : PassState}
    (h : 1 ≤ (s.active.config.passes.get q).tubeCount) (htarget : (s.passes.get q).target = some target)
    (hnew : target ≠ (s.passes.get q).state) :
    settlePass s q =
      mapPassWorking (enterWorking (s.passes.get q).state target) q (setPass q (enteredPass target) s) := by
  simp only [settlePass, passUsed_eq_true h, if_true, htarget, if_neg hnew]

theorem mapPassWorking_eq {f : Working → Working} {q : PassIx} {s : State} {working : Vector Working 640}
    (h : ∀ i, working.get i =
      if passOf i = q ∧ cellExists s.active.config i = true then f (s.working.get i) else s.working.get i) :
    mapPassWorking f q s = { s with working := working } := by
  obtain rfl : working = Vector.ofFn fun i =>
      if passOf i = q ∧ cellExists s.active.config i = true then f (s.working.get i) else s.working.get i :=
    table_ext _ _ fun i => by rw [h, get_ofFn]
  rfl

theorem enteredPass_eq (target : PassState) :
    enteredPass target = { state := target, target := none
                           spallTimer := if target = .spall then some 0 else none, overdueNotified := false } := by
  cases target <;> rfl

/-- Settles O45: `settlePass` by its cases, each a change of one pass's record. -/
theorem passSettlingEntersTarget : Obligations.PassSettlingEntersTarget := by
  rintro s y q x after rfl rfl
  refine ⟨fun hunused hafter => ?unused, fun hused => ⟨settlePass_of_settled hused, fun target htarget => ⟨?same, ?entry⟩⟩⟩
  case unused =>
    subst hafter
    rw [settlePass_of_unused hunused]
    refine ⟨fun ⟨hstate, htarget⟩ => setPass_of_same ?_, fun hchanged => setPass_of_changed ?_⟩
    · simp [retainedPass, hstate, htarget, PassService.online]
    · intro hsame
      obtain ⟨hstate, htarget⟩ := RetainedPass.mk.inj hsame
      exact hchanged.elim (fun h => h hstate.symm) fun h => h htarget.symm
  case same =>
    rintro rfl rfl
    rw [settlePass_of_same hused htarget rfl, setPass_of_changed]
    · rfl
    · intro hsame
      have hnone : none = (s.passes.get q).target := congrArg RetainedPass.target hsame
      rw [← hnone] at htarget
      cases htarget
  case entry =>
    intro hnew hafter working hworking
    have hchanged : retainedPass (enteredPass target) ≠ retainedPass (s.passes.get q) := by
      intro hsame
      rw [enteredPass_eq] at hsame
      exact hnew (congrArg RetainedPass.state hsame)
    rw [settlePass_of_entry hused htarget hnew, setPass_of_changed hchanged, enteredPass_eq, ← hafter,
      mapPassWorking_eq (working := working)]
    · subst hafter; rfl
    · intro i
      rw [hworking]
      cases (s.passes.get q).state <;> cases target <;> rfl

/-! ### The spall timer (R130) -/

theorem exec_spallOverdue {q : PassIx} {ms : Nat} {s : State} (hrunning : s.stage = .running) :
    exec (.spallOverdue q ms) s = .next (compareOverdue (elapse ms s) q) := by
  have hkept : (elapse ms s).running = true := by simp [State.running, hrunning]
  change Host.Outcome.next (spallOverdueEvent q (elapse ms s)) = _
  rw [spallOverdueEvent, if_pos hkept]

/-- Settles O21: the comparison with the spall overdue, once in a stay. -/
theorem spallOverdueOnce : Obligations.SpallOverdueOnce := by
  rintro q ms s u t hrunning rfl hspall htimer
  rw [exec_spallOverdue hrunning, compareOverdue_eq]
  have hnow : overdueNow (elapse ms s).active.config ((elapse ms s).passes.get q) =
      decide (s.active.config.globals.spallOverdue * 60000 ≤ t ∧ ((elapse ms s).passes.get q).overdueNotified = false) := by
    simp [overdueNow, overdueMs, htimer, hspall]
  refine ⟨fun hdue htold => ?told, fun hnot => ?waits⟩
  case told => rw [hnow, decide_eq_true ⟨hdue, htold⟩, if_pos rfl]; rfl
  case waits =>
    rw [hnow, decide_eq_false, if_neg (by simp)]
    rintro ⟨hdue, htold⟩
    exact hnot.elim (Nat.not_lt.2 hdue) fun h => by rw [htold] at h; cases h

end Sys2Proof.Proofs.Passes

/-! PROOF. The record forms lose nothing and are the only bytes that read as their records (R161, R162). -/
namespace Sys2Proof.Proofs.Forms
open Sys2Proof Sys2Proof.Machine

/-! ### Numbers in bytes -/

theorem toNat_byte {n : Nat} (h : n < 256) : (BitVec.ofNat 8 n).toNat = n := by
  rw [BitVec.toNat_ofNat]
  omega

theorem byte_toNat (b : Byte) : BitVec.ofNat 8 b.toNat = b := by simp

theorem read16_be16 {n : Nat} (h : n < 65536) : read16 (BitVec.ofNat 8 (n / 256)) (BitVec.ofNat 8 n) = n := by
  simp only [read16, BitVec.toNat_ofNat]
  omega

theorem read16_lt (hi lo : Byte) : read16 hi lo < 65536 := by
  have hhi := hi.isLt
  have hlo := lo.isLt
  unfold read16
  omega

theorem be16_read16 (hi lo : Byte) : be16 (read16 hi lo) = [hi, lo] := by
  have hhi := hi.isLt
  have hlo := lo.isLt
  unfold be16 read16
  congr 1
  · exact BitVec.eq_of_toNat_eq (by rw [BitVec.toNat_ofNat]; omega)
  · congr 1
    exact BitVec.eq_of_toNat_eq (by rw [BitVec.toNat_ofNat]; omega)

theorem read32_be32 {n : Nat} (h : n < 4294967296) :
    read32 (BitVec.ofNat 8 (n / 16777216)) (BitVec.ofNat 8 (n / 65536)) (BitVec.ofNat 8 (n / 256)) (BitVec.ofNat 8 n) =
      n := by
  simp only [read32, BitVec.toNat_ofNat]
  omega

theorem be32_read32 (a b c d : Byte) : be32 (read32 a b c d) = [a, b, c, d] := by
  have ha := a.isLt
  have hb := b.isLt
  have hc := c.isLt
  have hd := d.isLt
  have hbytes : ∀ (x : Byte) (n : Nat), n % 256 = x.toNat → BitVec.ofNat 8 n = x := fun x n hn =>
    BitVec.eq_of_toNat_eq (by rw [BitVec.toNat_ofNat]; exact hn)
  unfold be32 read32
  rw [hbytes a _ (by omega), hbytes b _ (by omega), hbytes c _ (by omega), hbytes d _ (by omega)]

theorem word16_lt (x : Int) : word16 x < 65536 := by
  unfold word16
  omega

theorem signed_word16 {x : Int} (hlo : -32768 ≤ x) (hhi : x ≤ 32767) : signed (word16 x) = x := by
  unfold signed word16
  split <;> omega

theorem word16_signed {n : Nat} (h : n < 65536) : word16 (signed n) = n := by
  unfold signed word16
  split <;> omega

theorem readSigned16_bytes {x : Int} (hlo : -32768 ≤ x) (hhi : x ≤ 32767) :
    readSigned16 (BitVec.ofNat 8 (word16 x / 256)) (BitVec.ofNat 8 (word16 x)) = x := by
  rw [readSigned16, read16_be16 (word16_lt x), signed_word16 hlo hhi]

theorem signedBe16_readSigned16 (hi lo : Byte) : signedBe16 (readSigned16 hi lo) = [hi, lo] := by
  rw [signedBe16, readSigned16, word16_signed (read16_lt hi lo), be16_read16]

theorem readFlag_flagByte (b : Bool) : readFlag (flagByte b) = some b := by cases b <;> rfl

theorem flagByte_of_readFlag {f : Byte} {b : Bool} (h : readFlag f = some b) : f = flagByte b := by
  unfold readFlag at h
  split at h
  · next hf => cases h; exact hf
  · split at h
    · next hf => cases h; exact hf
    · cases h

/-! ### Line records -/

theorem readLine_lineForm {r : LineRecord} (h : lineInRange r = true) : readLine (lineForm r) = some r := by
  obtain ⟨fitted, zeroTrim, span⟩ := r
  simp only [lineInRange, decide_eq_true_eq] at h
  have hread : readLine (lineForm { fitted := fitted, zeroTrim := zeroTrim, span := span }) =
      (readFlag (flagByte fitted)).map fun b =>
        { fitted := b
          zeroTrim := readSigned16 (BitVec.ofNat 8 (word16 zeroTrim / 256)) (BitVec.ofNat 8 (word16 zeroTrim))
          span := read16 (BitVec.ofNat 8 (span / 256)) (BitVec.ofNat 8 span) } := rfl
  rw [hread, readFlag_flagByte, readSigned16_bytes (by omega) (by omega), read16_be16 (by omega)]
  rfl

theorem lineForm_of_readLine {form : List Byte} {r : LineRecord} (h : readLine form = some r) : form = lineForm r := by
  unfold readLine at h
  split at h
  · next f z1 z0 s1 s0 =>
    obtain ⟨b, hb, rfl⟩ := Option.map_eq_some_iff.1 h
    rw [lineForm, signedBe16_readSigned16, be16_read16, flagByte_of_readFlag hb]
    rfl
  · cases h

/-! ### Cell entries -/

/-- A source item's fields fit the form. -/
def Fits (x : SourceItem) : Prop := x.line < 256 ∧ -32768 ≤ x.trim ∧ x.trim ≤ 32767

theorem takeItems_sourceForm {items : List SourceItem} (h : ∀ x ∈ items, Fits x) (rest : List Byte) :
    takeItems items.length (items.flatMap sourceForm ++ rest) = some (items, rest) := by
  induction items with
  | nil => rfl
  | cons x items ih =>
    obtain ⟨hline, hlo, hhi⟩ := h x List.mem_cons_self
    have hstep : takeItems (items.length + 1) ((x :: items).flatMap sourceForm ++ rest) =
        (takeItems items.length (items.flatMap sourceForm ++ rest)).map fun y =>
          ({ line := (BitVec.ofNat 8 x.line).toNat
             trim := readSigned16 (BitVec.ofNat 8 (word16 x.trim / 256)) (BitVec.ofNat 8 (word16 x.trim)) } :: y.1,
            y.2) := by
      rw [List.flatMap_cons, List.append_assoc]
      generalize items.flatMap sourceForm ++ rest = tail
      simp only [sourceForm, signedBe16, be16, List.cons_append, List.nil_append, takeItems]
      cases takeItems items.length tail <;> rfl
    rw [List.length_cons, hstep, ih fun y hy => h y (List.mem_cons_of_mem x hy), toNat_byte hline,
      readSigned16_bytes hlo hhi]
    rfl

theorem sourceForm_of_takeItems {n : Nat} {bytes rest : List Byte} {items : List SourceItem}
    (h : takeItems n bytes = some (items, rest)) : items.length = n ∧ bytes = items.flatMap sourceForm ++ rest := by
  induction n generalizing bytes items with
  | zero => cases h; exact ⟨rfl, rfl⟩
  | succ n ih =>
    rcases bytes with _ | ⟨l, _ | ⟨t1, _ | ⟨t0, bytes⟩⟩⟩
    · cases h
    · cases h
    · cases h
    · simp only [takeItems] at h
      split at h
      · next items' rest' htail =>
        cases h
        obtain ⟨hlen, hbytes⟩ := ih htail
        refine ⟨congrArg (· + 1) hlen, ?_⟩
        rw [List.flatMap_cons, sourceForm, byte_toNat, signedBe16_readSigned16, hbytes]
        rfl
      · cases h

theorem takeFallback_fallbackForm {fallback : Option Fallback} (h : fallbackInRange fallback = true) (rest : List Byte) :
    takeFallback (fallbackForm fallback ++ rest) = some (fallback, rest) := by
  cases fallback with
  | none => rfl
  | some f =>
    obtain ⟨cell, offset⟩ := f
    simp only [fallbackInRange, decide_eq_true_eq] at h
    have hread : takeFallback (fallbackForm (some { cell := cell, offset := offset }) ++ rest) =
        some (some { cell := read16 (BitVec.ofNat 8 (cell / 256)) (BitVec.ofNat 8 cell)
                     offset := readSigned16 (BitVec.ofNat 8 (word16 offset / 256)) (BitVec.ofNat 8 (word16 offset)) },
          rest) := rfl
    rw [hread, read16_be16 (by omega), readSigned16_bytes (by omega) (by omega)]

theorem fallbackForm_of_takeFallback {bytes rest : List Byte} {fallback : Option Fallback}
    (h : takeFallback bytes = some (fallback, rest)) : bytes = fallbackForm fallback ++ rest := by
  unfold takeFallback at h
  split at h
  · next m bytes =>
    split at h
    · next hm => cases h; subst hm; rfl
    · split at h
      · next hm =>
        split at h
        · next c1 c0 o1 o0 tail =>
          cases h
          subst hm
          rw [fallbackForm, be16_read16, signedBe16_readSigned16]
          rfl
        · cases h
      · cases h
  · cases h

theorem takeCellForm_cellForm {i : CellIx} {e : CellEntry} (rest : List Byte) (h : cellInRange e = true) :
    takeCellForm (cellForm i.1 e ++ rest) = some (i.1, e, rest) := by
  obtain ⟨sources, fallback⟩ := e
  simp only [cellInRange, Bool.and_eq_true, decide_eq_true_eq, List.all_eq_true] at h
  obtain ⟨⟨⟨hcount, hsources⟩, _⟩, hfallback⟩ := h
  have hfits : ∀ x ∈ sources, Fits x := fun x hx => by
    have hrange := hsources x hx
    simp only [sourceInRange, decide_eq_true_eq] at hrange
    exact ⟨by omega, by omega, by omega⟩
  have hi := i.2
  have hcell : cellForm i.1 { sources := sources, fallback := fallback } ++ rest =
      BitVec.ofNat 8 (i.1 / 256) :: BitVec.ofNat 8 i.1 :: BitVec.ofNat 8 sources.length ::
        (sources.flatMap sourceForm ++ (fallbackForm fallback ++ rest)) := by
    simp [cellForm, be16]
  rw [hcell, takeCellForm, toNat_byte (by omega), takeItems_sourceForm hfits]
  dsimp only
  rw [takeFallback_fallbackForm hfallback, read16_be16 (by omega)]

/-- Bytes that read as an entry begin with its form. -/
theorem cellForm_of_takeCellForm {bytes rest : List Byte} {n : Nat} {e : CellEntry}
    (h : takeCellForm bytes = some (n, e, rest)) : bytes = cellForm n e ++ rest ∧ e.sources.length ≤ 255 := by
  unfold takeCellForm at h
  split at h
  · next i1 i0 count bytes =>
    split at h
    · next items tail hitems =>
      split at h
      · next fallback rest' hfallback =>
        cases h
        obtain ⟨hlen, hbytes⟩ := sourceForm_of_takeItems hitems
        have hcount := count.isLt
        refine ⟨?_, show items.length ≤ 255 by omega⟩
        rw [cellForm, be16_read16, hlen, byte_toNat, hbytes, fallbackForm_of_takeFallback hfallback]
        simp
      · cases h
    · cases h
  · cases h

/-! ### Pass records -/

theorem readPass_passForm {r : PassRecord} (h : passInRange r = true) : readPass (passForm r) = some r := by
  obtain ⟨tubeCount, levelCount, high, highHigh, spallHigh, spallHighHigh, deadband, rateLimit⟩ := r
  simp only [passInRange, decide_eq_true_eq] at h
  simp only [passForm, byte1, be16, List.cons_append, List.nil_append, readPass]
  rw [toNat_byte (by omega), toNat_byte (by omega), read16_be16 (by omega), read16_be16 (by omega),
    read16_be16 (by omega), read16_be16 (by omega), read16_be16 (by omega), read16_be16 (by omega)]

theorem passForm_of_readPass {form : List Byte} {r : PassRecord} (h : readPass form = some r) : form = passForm r := by
  unfold readPass at h
  split at h
  · cases h
    simp only [passForm, byte1, byte_toNat, be16_read16, List.cons_append, List.nil_append]
  · cases h

/-! ### Global records -/

theorem readSettings_settingsForm {l : List GroupSettings} (h : ∀ g ∈ l, settingsInRange g = true) :
    readSettings (l.flatMap settingsForm) = some l := by
  induction l with
  | nil => rfl
  | cons g l ih =>
    have hg := h g List.mem_cons_self
    have hl := ih fun x hx => h x (List.mem_cons_of_mem g hx)
    obtain ⟨window, interleave⟩ := g
    simp only [settingsInRange, decide_eq_true_eq] at hg
    rw [List.flatMap_cons]
    generalize l.flatMap settingsForm = tail at hl
    simp only [settingsForm, be16, byte1, List.cons_append, List.nil_append, readSettings, hl]
    rw [toNat_byte (by omega), read16_be16 (by omega)]

theorem settingsForm_of_readSettings {bytes : List Byte} {l : List GroupSettings} (h : readSettings bytes = some l) :
    bytes = l.flatMap settingsForm := by
  induction bytes using readSettings.induct generalizing l with
  | case1 => cases h; rfl
  | case2 n1 n0 i bytes gs hgs ih =>
    rw [readSettings, hgs] at h
    cases h
    rw [List.flatMap_cons, settingsForm, be16_read16, byte1, byte_toNat, ← ih hgs]
    rfl
  | case3 n1 n0 i bytes hnone ih =>
    rw [readSettings, hnone] at h
    cases h
  | case4 bytes hnil hcons =>
    unfold readSettings at h
    split at h
    · exact absurd rfl hnil
    · exact absurd rfl (hcons _ _ _ _)
    · cases h

theorem toVector?_toList {α : Type} {n : Nat} (v : Vector α n) : toVector? n v.toList = some v := by
  rw [toVector?, dif_pos (by simp)]
  rfl

theorem toList_of_toVector? {α : Type} {n : Nat} {l : List α} {v : Vector α n} (h : toVector? n l = some v) :
    v.toList = l := by
  unfold toVector? at h
  split at h
  · cases h; rfl
  · cases h

theorem relockOf?_relockCode (r : RelockPolicy) : relockOf? (BitVec.ofNat 8 (relockCode r)) = some r := by
  cases r <;> rfl

theorem relockCode_of_relockOf? {b : Byte} {r : RelockPolicy} (h : relockOf? b = some r) :
    b = BitVec.ofNat 8 (relockCode r) := by
  unfold relockOf? at h
  split at h
  · next hb => cases h; exact hb
  · split at h
    · next hb => cases h; exact hb
    · cases h

theorem readGlobal_globalForm {r : GlobalRecord} (h : globalInRange r = true) : readGlobal (globalForm r) = some r := by
  obtain ⟨sweepPeriod, staleLimit, staleHold, disagreement, scanMargin, scanValidAge, rateWindow, maxSpall, spallOverdue,
    multiplierEnable, policy, referenceAge, groups⟩ := r
  simp only [globalInRange, Bool.and_eq_true, decide_eq_true_eq, List.all_eq_true] at h
  obtain ⟨hfields, hgroups⟩ := h
  have hsettings := readSettings_settingsForm hgroups
  simp only [globalForm]
  generalize groups.toList.flatMap settingsForm = tail at hsettings
  simp only [byte1, be16, be32, List.cons_append, List.nil_append, readGlobal, hsettings, Option.bind_some,
    readFlag_flagByte, relockOf?_relockCode, toVector?_toList]
  rw [read16_be16 (by omega), toNat_byte (by omega), toNat_byte (by omega), read16_be16 (by omega),
    read16_be16 (by omega), read32_be32 (by omega), toNat_byte (by omega), toNat_byte (by omega),
    read16_be16 (by omega), toNat_byte (by omega)]

theorem globalForm_of_readGlobal {form : List Byte} {r : GlobalRecord} (h : readGlobal form = some r) :
    form = globalForm r := by
  unfold readGlobal at h
  split at h
  · split at h
    · next enable policy groups henable hpolicy hgroups =>
      cases h
      obtain ⟨l, hl, hv⟩ := Option.bind_eq_some_iff.1 hgroups
      rw [globalForm, toList_of_toVector? hv, ← settingsForm_of_readSettings hl]
      simp only [be16_read16, be32_read32, byte1, byte_toNat, ← flagByte_of_readFlag henable,
        ← relockCode_of_relockOf? hpolicy, List.cons_append, List.nil_append]
    · cases h
  · cases h

/-- Settles O54: each form read back, field by field. -/
theorem recordFormsReadBack : Obligations.RecordFormsReadBack :=
  ⟨fun _ => readLine_lineForm, fun _ _ rest => takeCellForm_cellForm rest, fun _ => readPass_passForm,
    fun _ => readGlobal_globalForm⟩

end Sys2Proof.Proofs.Forms

/-! PROOF. Configuration editing: the claim, the holder tests, staging, reading and the judgement of a commit (R133 to
R143). -/
namespace Sys2Proof.Proofs.Editing
open Sys2Proof Sys2Proof.Machine Sys2Proof.Proofs.ScanBatches Sys2Proof.Proofs.Catalogue Sys2Proof.Proofs.Units
open Sys2Proof.Proofs.Forms Sys2Proof.Proofs.Readouts

/-- What the owner of an admitted request returns is the answer and the next state. -/
theorem exec_of_owner {k : RequestKind} {p : Port} {tag : Byte} {payload : List Byte} {s t : State} {r : Reply}
    (hasks : Asks k p tag payload s) (hadmitted : admission k p payload.length = none)
    (howner : ownerOf k p payload s = (t, r)) :
    exec (requestCommand k p) s = .next (answered k p tag payload r t) := by
  rw [exec_request, serve_owned k (ownerOf k) p tag payload s hasks hadmitted, howner]

/-! ### The claim (R133 to R138) -/

theorem heldBy_eq_none {p : Port} {s : State} : heldBy p s = none ↔ ∀ e, s.edit = some e → e.holder ≠ p := by
  rw [Option.eq_none_iff_forall_not_mem]
  exact forall_congr' fun e => by rw [Option.mem_def, heldBy_eq_some, not_and]

theorem restartTimer_of_idle {now : Word} {e : EditClaim} (h : e.commitPending = false) :
    restartTimer now e = { e with timer := some now } := by
  simp [restartTimer, h]

theorem restartTimer_eq (now : Word) (e : EditClaim) :
    restartTimer now e = { e with timer := if e.commitPending then e.timer else some now } := by
  unfold restartTimer
  split <;> rfl

theorem ownClaim_of_free {s : State} (p : Port) (payload : List Byte) (h : s.edit = none) :
    ownClaim p payload s =
      (s.setEdit (some { holder := p, staged := s.active.config, commitPending := false,
                         timer := some s.timebase.partTime }), okWith (be16 s.active.generation.toNat)) := by
  simp only [ownClaim, h]

theorem ownClaim_of_own {s : State} {e : EditClaim} {p : Port} (payload : List Byte) (h : s.edit = some e)
    (hp : e.holder = p) :
    ownClaim p payload s = (s, { code := .alreadyHeld, payload := byte1 (if e.commitPending then 1 else 0) }) := by
  simp only [ownClaim, h, hp, if_true, flagByte_eq]

theorem ownClaim_of_other {s : State} {e : EditClaim} {p : Port} (payload : List Byte) (h : s.edit = some e)
    (hp : e.holder ≠ p) :
    ownClaim p payload s = (s, { code := .heldElsewhere
                                 payload := byte1 (holderCode (some e.holder)) ++
                                   byte1 (if e.commitPending then 1 else 0) }) := by
  simp only [ownClaim, h, hp, if_false, flagByte_eq]

theorem holderCode_eq {q : Port} (h : q ≠ .trip) : holderCode (some q) = if q = .control then 1 else 2 := by
  cases q with
  | trip => exact absurd rfl h
  | control | service => rfl

theorem ownRelease_of_stranger {s : State} {p : Port} (payload : List Byte) (h : ∀ e, s.edit = some e → e.holder ≠ p) :
    ownRelease p payload s = (s, codeOnly .notHolder) := by
  simp only [ownRelease, heldBy_eq_none.2 h]

theorem ownRelease_of_pending {s : State} {p : Port} {e : EditClaim} (payload : List Byte) (h : heldBy p s = some e)
    (hpending : e.commitPending = true) : ownRelease p payload s = (s, codeOnly .commitPending) := by
  simp only [ownRelease, h, hpending, if_true]

theorem ownRelease_of_idle {s : State} {p : Port} {e : EditClaim} (payload : List Byte) (h : heldBy p s = some e)
    (hidle : e.commitPending = false) : ownRelease p payload s = (s.setEdit none, codeOnly .ok) := by
  simp only [ownRelease, h, hidle, Bool.false_eq_true, if_false]

theorem admission_claim {p : Port} (hp : p ≠ .trip) : admission .claim p 0 = none :=
  admission_of_length_eq (decide_eq_true hp) rfl

theorem admission_release {p : Port} (hp : p ≠ .trip) : admission .release p 0 = none :=
  admission_of_length_eq (decide_eq_true hp) rfl

/-- Settles O22: CLAIM by the claim it finds, RELEASE by its holder. -/
theorem claimAndReleaseJudged : Obligations.ClaimAndReleaseJudged := by
  refine ⟨fun p q tag s e hp hasks => ⟨fun hfree => ?free, fun he howner => ?own, fun he hq hne htrip => ?other⟩,
    fun p tag s hasks => ⟨fun htrip => ?denied, fun hp hstranger => ?stranger, fun hp e he howner =>
      ⟨fun hpending => ?pending, fun hidle => ?frees⟩⟩⟩
  case free => exact exec_of_owner (k := .claim) hasks (admission_claim hp) (ownClaim_of_free p [] hfree)
  case own => exact exec_of_owner (k := .claim) hasks (admission_claim hp) (ownClaim_of_own [] he howner)
  case other =>
    subst hq
    rw [← holderCode_eq htrip]
    exact exec_of_owner (k := .claim) hasks (admission_claim hp) (ownClaim_of_other [] he hne)
  case denied => subst htrip; exact exec_of_not_admitted (k := .release) hasks rfl
  case stranger => exact exec_of_owner (k := .release) hasks (admission_release hp) (ownRelease_of_stranger [] hstranger)
  case pending =>
    exact exec_of_owner (k := .release) hasks (admission_release hp)
      (ownRelease_of_pending [] (heldBy_eq_some.2 ⟨he, howner⟩) hpending)
  case frees =>
    exact exec_of_owner (k := .release) hasks (admission_release hp)
      (ownRelease_of_idle [] (heldBy_eq_some.2 ⟨he, howner⟩) hidle)

/-! ### The holder tests (R138) -/

/-- The record that a STAGE request writes. -/
def writerOf (k : RequestKind) : List Byte → Configuration → Option Configuration :=
  match k with
  | .stageLine => writeLine
  | .stageCell => writeCell
  | .stagePass => writePass
  | .stageGlobal => writeGlobal
  | _ => fun _ _ => none

/-- A STAGE request with a payload of its length. -/
def StageRequest (k : RequestKind) (payload : List Byte) : Prop :=
  k = .stageLine ∧ payload.length = 6 ∨ k = .stageCell ∨ k = .stagePass ∧ payload.length = 15 ∨
    k = .stageGlobal ∧ payload.length = 43

theorem StageRequest.owner {k : RequestKind} {payload : List Byte} (h : StageRequest k payload) :
    ownerOf k = stage (writerOf k) := by
  obtain ⟨rfl, _⟩ | rfl | ⟨rfl, _⟩ | ⟨rfl, _⟩ := h <;> rfl

theorem StageRequest.admission {k : RequestKind} {payload : List Byte} {p : Port} (h : StageRequest k payload)
    (hp : p ≠ .trip) : admission k p payload.length = none := by
  obtain ⟨rfl, hlen⟩ | rfl | ⟨rfl, hlen⟩ | ⟨rfl, hlen⟩ := h
  · exact admission_of_length_eq (decide_eq_true hp) (congrArg some hlen.symm)
  · simp [Machine.admission, admitted, hp, fixedLength]
  · exact admission_of_length_eq (decide_eq_true hp) (congrArg some hlen.symm)
  · exact admission_of_length_eq (decide_eq_true hp) (congrArg some hlen.symm)

theorem stage_of_stranger {write : List Byte → Configuration → Option Configuration} {p : Port} {payload : List Byte}
    {s : State} (h : ∀ e, s.edit = some e → e.holder ≠ p) : stage write p payload s = (s, codeOnly .notHolder) := by
  simp only [stage, heldBy_eq_none.2 h]

theorem stage_of_pending {write : List Byte → Configuration → Option Configuration} {p : Port} {payload : List Byte}
    {s : State} {e : EditClaim} (h : heldBy p s = some e) (hpending : e.commitPending = true) :
    stage write p payload s = (s, codeOnly .commitPending) := by
  simp only [stage, h, hpending, if_true]

theorem stage_of_record {write : List Byte → Configuration → Option Configuration} {p : Port} {payload : List Byte}
    {s : State} {e : EditClaim} {c : Configuration} (h : heldBy p s = some e) (hidle : e.commitPending = false)
    (hwrite : write payload e.staged = some c) :
    stage write p payload s =
      ({ s with edit := some { e with staged := c, timer := some s.timebase.partTime } }, codeOnly .ok) := by
  simp only [stage, h, hidle, Bool.false_eq_true, if_false, hwrite, restartTimer_of_idle hidle, State.setEdit]

theorem stage_of_no_record {write : List Byte → Configuration → Option Configuration} {p : Port} {payload : List Byte}
    {s : State} {e : EditClaim} (h : heldBy p s = some e) (hidle : e.commitPending = false)
    (hwrite : write payload e.staged = none) :
    stage write p payload s =
      ({ s with edit := some { e with timer := some s.timebase.partTime } }, codeOnly .range) := by
  simp only [stage, h, hidle, Bool.false_eq_true, if_false, hwrite, restartTimer_of_idle hidle, State.setEdit]

theorem admission_commit {p : Port} (hp : p ≠ .trip) : admission .commit p 0 = none :=
  admission_of_length_eq (decide_eq_true hp) rfl

theorem admission_getConfig {p : Port} (hp : p ≠ .trip) : admission .getConfig p 4 = none :=
  admission_of_length_eq (decide_eq_true hp) rfl

theorem ownCommit_of_stranger {p : Port} {payload : List Byte} {s : State}
    (h : ∀ e, s.edit = some e → e.holder ≠ p) : ownCommit p payload s = (s, codeOnly .notHolder) := by
  simp only [ownCommit, heldBy_eq_none.2 h]

theorem ownCommit_of_pending {p : Port} {payload : List Byte} {s : State} {e : EditClaim} (h : heldBy p s = some e)
    (hpending : e.commitPending = true) : ownCommit p payload s = (s, codeOnly .commitPending) := by
  simp only [ownCommit, h, hpending, if_true]

theorem ownGetConfig_of_staged {p : Port} {kind hi lo : Byte} {s : State} :
    ownGetConfig p [1#8, kind, hi, lo] s = getStaged p kind (read16 hi lo) s := rfl

theorem getStaged_of_stranger {p : Port} {kind : Byte} {index : Nat} {s : State}
    (h : ∀ e, s.edit = some e → e.holder ≠ p) : getStaged p kind index s = (s, codeOnly .notHolder) := by
  simp only [getStaged, heldBy_eq_none.2 h]

/-- Settles O23: every holder request begins with the holder tests. -/
theorem holderTestsRefuse : Obligations.HolderTestsRefuse := by
  intro k p tag payload s hp hasks hk
  have hcases : StageRequest k payload ∨ k = .commit ∧ payload = [] ∨
      k = .getConfig ∧ ∃ kind hi lo, payload = [1#8, kind, hi, lo] := by
    simpa only [StageRequest, or_assoc] using hk
  refine ⟨fun hstranger => ?stranger, fun hconfig ⟨e, he, howner, hpending⟩ => ?pending⟩
  case stranger =>
    obtain hstage | ⟨rfl, rfl⟩ | ⟨rfl, kind, hi, lo, rfl⟩ := hcases
    · exact exec_of_owner hasks (hstage.admission hp) (by rw [hstage.owner, stage_of_stranger hstranger]; rfl)
    · exact exec_of_owner hasks (admission_commit hp) (ownCommit_of_stranger (payload := []) hstranger)
    · exact exec_of_owner hasks (admission_getConfig hp) (ownGetConfig_of_staged.trans (getStaged_of_stranger hstranger))
  case pending =>
    have hheld := heldBy_eq_some.2 ⟨he, howner⟩
    obtain hstage | ⟨rfl, rfl⟩ | ⟨rfl, _⟩ := hcases
    · exact exec_of_owner hasks (hstage.admission hp) (by rw [hstage.owner, stage_of_pending hheld hpending]; rfl)
    · exact exec_of_owner hasks (admission_commit hp) (ownCommit_of_pending (payload := []) hheld hpending)
    · exact absurd rfl hconfig

/-! ### Staging (R139 to R141) -/

theorem ofNat_eq_of_toNat {b : Byte} {n : Nat} (h : n = b.toNat) : b = BitVec.ofNat 8 n := by rw [h, byte_toNat]

theorem writeLine_eq_some {payload : List Byte} {before after : Configuration} :
    writeLine payload before = some after ↔ StagesRecord .stageLine payload before after := by
  constructor
  · intro h
    unfold writeLine at h
    split at h
    · next b form =>
      split at h
      · next i r hi hr =>
        split at h
        · next hrange =>
          cases h
          refine ⟨i, r, hrange, ?_, rfl⟩
          rw [lineForm_of_readLine hr, ofNat_eq_of_toNat ((lineIx?_some _ i).1 hi)]
        · cases h
      · cases h
    · cases h
  · rintro ⟨i, r, hrange, rfl, rfl⟩
    have hi := i.2
    have hindex : lineIx? (BitVec.ofNat 8 i.1).toNat = some i := (lineIx?_some _ i).2 (toNat_byte (by omega)).symm
    simp only [writeLine, hindex, readLine_lineForm hrange, hrange, if_true]

theorem writePass_eq_some {payload : List Byte} {before after : Configuration} :
    writePass payload before = some after ↔ StagesRecord .stagePass payload before after := by
  constructor
  · intro h
    unfold writePass at h
    split at h
    · next b form =>
      split at h
      · next i r hi hr =>
        split at h
        · next hrange =>
          cases h
          refine ⟨i, r, hrange, ?_, rfl⟩
          rw [passForm_of_readPass hr, ofNat_eq_of_toNat ((passIx?_some _ i).1 hi)]
        · cases h
      · cases h
    · cases h
  · rintro ⟨i, r, hrange, rfl, rfl⟩
    have hi := i.2
    have hindex : passIx? (BitVec.ofNat 8 i.1).toNat = some i := (passIx?_some _ i).2 (toNat_byte (by omega)).symm
    simp only [writePass, hindex, readPass_passForm hrange, hrange, if_true]

theorem writeCell_eq_some {payload : List Byte} {before after : Configuration} :
    writeCell payload before = some after ↔ StagesRecord .stageCell payload before after := by
  constructor
  · intro h
    unfold writeCell at h
    split at h
    · next n e hform =>
      split at h
      · next i hi =>
        split at h
        · next hrange =>
          cases h
          obtain ⟨hpayload, _⟩ := cellForm_of_takeCellForm hform
          exact ⟨i, e, hrange, by rw [hpayload, (cellIx?_some n i).1 hi, List.append_nil], rfl⟩
        · cases h
      · cases h
    · cases h
  · rintro ⟨i, e, hrange, rfl, rfl⟩
    have hform := takeCellForm_cellForm (i := i) [] hrange
    rw [List.append_nil] at hform
    simp only [writeCell, hform, (cellIx?_some i.1 i).2 rfl, hrange, if_true]

theorem writeGlobal_eq_some {payload : List Byte} {before after : Configuration} :
    writeGlobal payload before = some after ↔ StagesRecord .stageGlobal payload before after := by
  constructor
  · intro h
    unfold writeGlobal at h
    split at h
    · next r hr =>
      split at h
      · next hrange => cases h; exact ⟨r, hrange, globalForm_of_readGlobal hr, rfl⟩
      · cases h
    · cases h
  · rintro ⟨r, hrange, rfl, rfl⟩
    simp only [writeGlobal, readGlobal_globalForm hrange, hrange, if_true]

theorem StageRequest.writes_iff {k : RequestKind} {payload : List Byte} (h : StageRequest k payload)
    {before after : Configuration} : writerOf k payload before = some after ↔ StagesRecord k payload before after := by
  obtain ⟨rfl, _⟩ | rfl | ⟨rfl, _⟩ | ⟨rfl, _⟩ := h
  · exact writeLine_eq_some
  · exact writeCell_eq_some
  · exact writePass_eq_some
  · exact writeGlobal_eq_some

/-- Settles O24: a payload is written exactly when it is the form of a record and index in range. -/
theorem stageWritesStagedCopy : Obligations.StageWritesStagedCopy := by
  intro k p tag payload s e hp hasks he howner hidle hk
  have hstage : StageRequest k payload := hk
  have hheld := heldBy_eq_some.2 ⟨he, howner⟩
  refine ⟨fun c hrecord => ?record, fun hnone => ?range⟩
  case record =>
    refine exec_of_owner hasks (hstage.admission hp) ?_
    rw [hstage.owner, stage_of_record hheld hidle (hstage.writes_iff.2 hrecord)]
    rfl
  case range =>
    have hwrite : writerOf k payload e.staged = none :=
      Option.eq_none_iff_forall_ne_some.2 fun c hc => hnone c (hstage.writes_iff.1 hc)
    refine exec_of_owner hasks (hstage.admission hp) ?_
    rw [hstage.owner, stage_of_no_record hheld hidle hwrite]
    rfl

/-! ### GET_CONFIG (R142) -/

theorem getStaged_of_holder {p : Port} {kind : Byte} {index : Nat} {s : State} {e : EditClaim}
    (h : heldBy p s = some e) :
    getStaged p kind index s =
      ({ s with edit := some { e with timer := if e.commitPending then e.timer else some s.timebase.partTime } },
        configReply s (configForm e.staged stagedCodeBytes kind index)) := by
  simp only [getStaged, h, restartTimer_eq, State.setEdit]

theorem ownGetConfig_of_active {p : Port} {kind hi lo : Byte} {s : State} :
    ownGetConfig p [0#8, kind, hi, lo] s =
      (s, configReply s (configForm s.active.config (activeCodeBytes s.active) kind (read16 hi lo))) := rfl

theorem ownGetConfig_of_neither {p : Port} {copy kind hi lo : Byte} {s : State} (h : 2 ≤ copy.toNat) :
    ownGetConfig p [copy, kind, hi, lo] s = (s, codeOnly .range) := by
  have hactive : copy ≠ 0#8 := by rintro rfl; simp at h
  have hstaged : copy ≠ 1#8 := by rintro rfl; simp at h
  simp only [ownGetConfig, if_neg hactive, if_neg hstaged]

/-- The form that a kind and an index name, from what each kind asks of it. -/
theorem configForm_eq {c : Configuration} {codeBytes : CellIx → List Byte} {kind : Byte} {n : Nat}
    {form : Option (List Byte)}
    (hline : kind = 0#8 → (∀ l : LineIx, l.1 = n → form = some (lineForm (c.lines.get l))) ∧ (128 ≤ n → form = none))
    (hcell : kind = 1#8 → (∀ i : CellIx, i.1 = n → form = some (cellForm n (c.cells.get i) ++ codeBytes i)) ∧
      (640 ≤ n → form = none))
    (hpass : kind = 2#8 → (∀ q : PassIx, q.1 = n → form = some (passForm (c.passes.get q))) ∧ (8 ≤ n → form = none))
    (hglobal : kind = 3#8 → form = if n = 0 then some (globalForm c.globals) else none)
    (hother : 4 ≤ kind.toNat → form = none) : configForm c codeBytes kind n = form := by
  unfold configForm
  split
  · next hk =>
    obtain ⟨hsome, hnone⟩ := hline hk
    cases hl : lineIx? n with
    | none => exact (hnone ((lineIx?_none n).1 hl)).symm
    | some l => exact (hsome l ((lineIx?_some n l).1 hl)).symm
  · next h0 =>
    split
    · next hk =>
      obtain ⟨hsome, hnone⟩ := hcell hk
      cases hi : cellIx? n with
      | none => exact (hnone ((cellIx?_none n).1 hi)).symm
      | some i =>
        have hin := (cellIx?_some n i).1 hi
        rw [hsome i hin, ← hin]
        rfl
    · next h1 =>
      split
      · next hk =>
        obtain ⟨hsome, hnone⟩ := hpass hk
        cases hq : passIx? n with
        | none => exact (hnone ((passIx?_none n).1 hq)).symm
        | some q => exact (hsome q ((passIx?_some n q).1 hq)).symm
      · next h2 =>
        split
        · next hk => exact (hglobal hk).symm
        · next h3 =>
          refine (hother ?_).symm
          have hne : ∀ m : Nat, m < 256 → kind ≠ BitVec.ofNat 8 m → kind.toNat ≠ m := fun m hm hk h =>
            hk (ofNat_eq_of_toNat h.symm)
          have := hne 0 (by omega) h0
          have := hne 1 (by omega) h1
          have := hne 2 (by omega) h2
          have := hne 3 (by omega) h3
          omega

theorem configReply_eq (s : State) (form : Option (List Byte)) :
    configReply s form = form.elim { code := .range, payload := [] } fun bytes =>
      { code := .ok, payload := be16 s.active.generation.toNat ++ bytes } := by
  cases form <;> rfl

/-- Settles O25: the copy that the payload names, and the form that its kind and index name in it. -/
theorem getConfigReports : Obligations.GetConfigReports := by
  intro p tag copy kind hi lo s e n hp hasks hn
  refine ⟨fun hlarge => ?neither, fun c form hline hcell hpass hglobal hother reply hreply =>
    ⟨fun hcopy hc => ?active, fun hcopy he howner hc => ?staged⟩⟩
  case neither =>
    exact exec_of_owner (k := .getConfig) hasks (admission_getConfig hp) (ownGetConfig_of_neither hlarge)
  all_goals
    have hreply' : configReply s form = reply := by rw [hreply, configReply_eq]; cases form <;> rfl
    subst hcopy hc hn
  case active =>
    have hform : configForm s.active.config (activeCodeBytes s.active) kind (read16 hi lo) = form :=
      configForm_eq hline hcell hpass hglobal hother
    rw [← hreply', ← hform]
    exact exec_of_owner (k := .getConfig) hasks (admission_getConfig hp) (ownGetConfig_of_active (p := p))
  case staged =>
    have hform : configForm e.staged stagedCodeBytes kind (read16 hi lo) = form :=
      configForm_eq hline hcell hpass hglobal hother
    rw [← hreply', ← hform]
    exact exec_of_owner (k := .getConfig) hasks (admission_getConfig hp)
      (ownGetConfig_of_staged.trans (getStaged_of_holder (heldBy_eq_some.2 ⟨he, howner⟩)))

end Sys2Proof.Proofs.Editing

/-! PROOF. The whole-configuration checks as one scan, and the judgement of a commit (R14 to R17, R143). -/
namespace Sys2Proof.Proofs.Commits
open Sys2Proof Sys2Proof.Machine Sys2Proof.Proofs.Units Sys2Proof.Proofs.Readouts Sys2Proof.Proofs.Reports
open Sys2Proof.Proofs.Editing

/-! ### The judgement (R143) -/

theorem ownCommit_of_report {p : Port} {payload : List Byte} {s : State} {e : EditClaim} {r : FailureReport}
    (h : heldBy p s = some e) (hidle : e.commitPending = false) (hreport : commitReport s e.staged = some r) :
    ownCommit p payload s =
      ({ s with edit := some { e with timer := some s.timebase.partTime } },
        { code := .rejected, payload := reportBytes r }) := by
  simp only [ownCommit, h, hidle, Bool.false_eq_true, if_false, hreport, restartTimer_of_idle hidle, State.setEdit]

theorem ownCommit_of_accepted {p : Port} {payload : List Byte} {s : State} {e : EditClaim}
    (h : heldBy p s = some e) (hidle : e.commitPending = false) (hreport : commitReport s e.staged = none) :
    ownCommit p payload s =
      ({ s with edit := some { e with commitPending := true, timer := none } }, codeOnly .accepted) := by
  simp only [ownCommit, h, hidle, Bool.false_eq_true, if_false, hreport, State.setEdit]

theorem commitReport_of_failed {s : State} {c : Configuration} {r : FailureReport} (h : checkConfiguration c = some r) :
    commitReport s c = some r := by
  simp only [commitReport, h]

theorem commitReport_of_passed {s : State} {c : Configuration} (h : checkConfiguration c = none) :
    commitReport s c =
      (alarmedVanishing s.alarms s.active.config c).map fun i => ⟨.cellAlarmed, some i.1⟩ := by
  simp only [commitReport, h]

/-- A cell of `before` that `after` would remove while its record is not IDLE. -/
def Lost (s : State) (after : Configuration) (i : CellIx) : Prop :=
  cellExists s.active.config i = true ∧ cellExists after i = false ∧ (s.alarms.get i).state ≠ .idle

theorem lost_iff {s : State} {after : Configuration} {i : CellIx} :
    (vanishes s.active.config after i && decide ((s.alarms.get i).state ≠ .idle)) = true ↔ Lost s after i := by
  simp [vanishes, Lost, and_assoc]

theorem alarmedVanishing_of_first {s : State} {after : Configuration} {i : CellIx} (hi : Lost s after i)
    (hfirst : ∀ j : CellIx, j.1 < i.1 → ¬ Lost s after j) :
    alarmedVanishing s.alarms s.active.config after = some i :=
  find?_finRange_eq_some (lost_iff.2 hi) fun j hj => Bool.eq_false_iff.2 (mt lost_iff.1 (hfirst j hj))

theorem alarmedVanishing_of_none {s : State} {after : Configuration} (h : ∀ j, ¬ Lost s after j) :
    alarmedVanishing s.alarms s.active.config after = none :=
  find?_finRange_eq_none fun j => Bool.eq_false_iff.2 (mt lost_iff.1 (h j))

theorem not_lost {s : State} {after : Configuration} {j : CellIx}
    (h : cellExists s.active.config j = true → cellExists after j = false → (s.alarms.get j).state = .idle) :
    ¬ Lost s after j := fun ⟨hbefore, hafter, hstate⟩ => hstate (h hbefore hafter)

/-! ### The steps of the scan (R15 to R17) -/

theorem globalStep_eq (c : Configuration) :
    globalStep c = if globalInRange c.globals = true then none else some { reason := .range, subject := none } := rfl

theorem settingsInRange_iff {g : GroupSettings} :
    settingsInRange g = true ↔ g.window ∈ [16, 32, 64, 128, 256] ∧ 1 ≤ g.interleave ∧ g.interleave ≤ 8 := by
  simp [settingsInRange]

theorem globalInRange_iff {r : GlobalRecord} :
    globalInRange r = true ↔
      250 ≤ r.sweepPeriod ∧ r.sweepPeriod ≤ 10000 ∧ 1 ≤ r.staleLimit ∧ r.staleLimit ≤ 60 ∧
        1 ≤ r.staleHold ∧ r.staleHold ≤ 255 ∧ 10 ≤ r.disagreement ∧ r.disagreement ≤ 2000 ∧
        10 ≤ r.scanMargin ∧ r.scanMargin ≤ 2000 ∧ 60 ≤ r.scanValidAge ∧ r.scanValidAge ≤ 86400 ∧
        4 ≤ r.rateWindow ∧ r.rateWindow ≤ 120 ∧ 1 ≤ r.maxSpall ∧ r.maxSpall ≤ 2 ∧
        10 ≤ r.spallOverdue ∧ r.spallOverdue ≤ 1440 ∧ 1 ≤ r.referenceAge ∧ r.referenceAge ≤ 60 ∧
        ∀ g : GroupIx, (r.groups.get g).window ∈ [16, 32, 64, 128, 256] ∧ 1 ≤ (r.groups.get g).interleave ∧
          (r.groups.get g).interleave ≤ 8 := by
  have hgroups : r.groups.toList.all settingsInRange = true ↔
      ∀ g : GroupIx, (r.groups.get g).window ∈ [16, 32, 64, 128, 256] ∧ 1 ≤ (r.groups.get g).interleave ∧
        (r.groups.get g).interleave ≤ 8 := by
    simp only [toList_eq_map, List.all_map, List.all_eq_true, List.mem_finRange, true_implies, Function.comp,
      settingsInRange_iff]
  rw [globalInRange, Bool.and_eq_true, decide_eq_true_iff, hgroups]
  simp only [and_assoc]

theorem passInRange_iff {r : PassRecord} :
    passInRange r = true ↔
      r.tubeCount ≤ 20 ∧ 1 ≤ r.levelCount ∧ r.levelCount ≤ 4 ∧ r.high ≤ 13500 ∧ r.highHigh ≤ 13500 ∧
        r.spallHigh ≤ 13500 ∧ r.spallHighHigh ≤ 13500 ∧ 5 ≤ r.deadband ∧ r.deadband ≤ 500 ∧
        1 ≤ r.rateLimit ∧ r.rateLimit ≤ 5000 := decide_eq_true_iff

theorem passStep_eq (c : Configuration) (p : PassIx) :
    passStep c p =
      if passInRange (c.passes.get p) = true then
        (if (c.passes.get p).high < (c.passes.get p).highHigh ∧
            (c.passes.get p).spallHigh < (c.passes.get p).spallHighHigh then none
        else some { reason := .limitOrder, subject := some p.1 })
      else some { reason := .range, subject := some p.1 } := by
  unfold passStep
  dsimp only
  cases passInRange (c.passes.get p) <;> rfl

theorem noLineTwice_iff {l : List SourceItem} : noLineTwice l = true ↔ (l.map fun x => x.line).Nodup := by
  induction l with
  | nil => simp [noLineTwice]
  | cons x l ih =>
    rw [noLineTwice, Bool.and_eq_true, ih, List.map_cons, List.nodup_cons]
    simp

theorem sourceInRange_iff {x : SourceItem} : sourceInRange x = true ↔ x.line ≤ 127 ∧ -500 ≤ x.trim ∧ x.trim ≤ 500 :=
  decide_eq_true_iff

theorem fallbackInRange_eq (fallback : Option Fallback) :
    fallbackInRange fallback = fallback.all fun f => decide (f.cell ≤ 639 ∧ -1000 ≤ f.offset ∧ f.offset ≤ 1000) := by
  cases fallback <;> rfl

theorem cellInRange_iff {e : CellEntry} :
    cellInRange e = true ↔
      e.sources.length ≤ 3 ∧ (∀ x ∈ e.sources, x.line ≤ 127 ∧ -500 ≤ x.trim ∧ x.trim ≤ 500) ∧
        (e.sources.map fun x => x.line).Nodup ∧
        e.fallback.all (fun f => decide (f.cell ≤ 639 ∧ -1000 ≤ f.offset ∧ f.offset ≤ 1000)) = true := by
  simp only [cellInRange, Bool.and_eq_true, decide_eq_true_iff, List.all_eq_true, sourceInRange_iff, noLineTwice_iff,
    fallbackInRange_eq, and_assoc]

/-- The test that a source item fails: a reference line, or an unfitted one. -/
def badSource (c : Configuration) (x : SourceItem) : Prop :=
  x.line % 16 = 0 ∨ ∀ l : LineIx, l.1 = x.line → (c.lines.get l).fitted = false

/-- The report of a source item that fails its test. -/
def sourceReport (i : CellIx) (x : SourceItem) : FailureReport :=
  { reason := if x.line % 16 = 0 then .lineReference else .lineUnfitted, subject := some i.1 }

theorem sourceStep_of_bad {c : Configuration} {i : CellIx} {x : SourceItem} (hline : x.line ≤ 127)
    (hbad : badSource c x) : sourceStep c i x = some (sourceReport i x) := by
  have hl : lineIx? x.line = some ⟨x.line, by omega⟩ := (lineIx?_some _ _).2 rfl
  simp only [sourceStep, hl, slotOf_eq_zero, sourceReport]
  by_cases hslot : x.line % 16 = 0
  · simp only [hslot, if_true]
  · have hfitted := (hbad.resolve_left hslot) ⟨x.line, by omega⟩ rfl
    simp only [hslot, if_false, hfitted, Bool.false_eq_true]

theorem sourceStep_of_good {c : Configuration} {i : CellIx} {x : SourceItem} (hgood : ¬ badSource c x) : sourceStep c i x = none := by
  obtain ⟨hslot, hfitted⟩ := not_or.1 hgood
  simp only [Classical.not_forall, Bool.not_eq_false] at hfitted
  obtain ⟨l, hlx, hfitted⟩ := hfitted
  have hl : lineIx? x.line = some l := (lineIx?_some _ _).2 hlx
  simp only [sourceStep, hl, slotOf_eq_zero, hlx, hslot, if_false, hfitted, if_true]

/-- The first failing source item gives the report of a cell's sources. -/
theorem findSome?_sourceStep {c : Configuration} {i : CellIx} {sources : List SourceItem} {test : SourceItem → Bool}
    (htest : ∀ x, test x = true ↔ badSource c x) (hlines : ∀ x ∈ sources, x.line ≤ 127) :
    sources.findSome? (sourceStep c i) = (sources.find? test).map (sourceReport i) := by
  induction sources with
  | nil => rfl
  | cons x sources ih =>
    have hx := hlines x List.mem_cons_self
    have hrest := ih fun y hy => hlines y (List.mem_cons_of_mem x hy)
    cases ht : test x with
    | true => rw [List.findSome?_cons, sourceStep_of_bad hx ((htest x).1 ht), List.find?_cons, ht]; rfl
    | false =>
      have hgood : ¬ badSource c x := fun hbad => by rw [(htest x).2 hbad] at ht; cases ht
      rw [List.findSome?_cons, sourceStep_of_good hgood, List.find?_cons, ht]
      exact hrest

theorem fallbackStep_eq (c : Configuration) (i : CellIx) (f : Fallback) :
    fallbackStep c i (some f) =
      if f.cell = i.1 then some { reason := .fallbackSelf, subject := some i.1 }
      else if f.cell / 80 ≠ i.1 / 80 then some { reason := .fallbackOtherPass, subject := some i.1 }
      else if ∃ j : CellIx, j.1 = f.cell ∧ cellExists c j = true then none
      else some { reason := .fallbackMissing, subject := some i.1 } := by
  simp only [fallbackStep]
  cases hcell : existingCell? c f.cell with
  | none =>
    have hno : ¬∃ j : CellIx, j.1 = f.cell ∧ cellExists c j = true := fun ⟨j, hj, hexists⟩ => by
      rw [(existingCell?_none c f.cell).1 hcell j hj] at hexists
      cases hexists
    simp only [hno, if_false]
  | some j =>
    have hyes : ∃ j : CellIx, j.1 = f.cell ∧ cellExists c j = true := ⟨j, (existingCell?_some c f.cell j).1 hcell⟩
    simp only [hyes, if_true]

theorem cellStep_of_range {c : Configuration} {i : CellIx} (h : cellInRange (c.cells.get i) = false) :
    cellStep c i = some { reason := .range, subject := some i.1 } := by
  simp [cellStep, h]

theorem cellStep_of_outside {c : Configuration} {i : CellIx} (h : cellInRange (c.cells.get i) = true)
    (hcell : cellExists c i = false) :
    cellStep c i =
      if (c.cells.get i).sources = [] ∧ (c.cells.get i).fallback = none then none
      else some { reason := .cellOutside, subject := some i.1 } := by
  simp [cellStep, h, hcell]

theorem cellStep_of_existing {c : Configuration} {i : CellIx} {test : SourceItem → Bool}
    (h : cellInRange (c.cells.get i) = true) (hcell : cellExists c i = true)
    (htest : ∀ x, test x = true ↔ badSource c x) :
    cellStep c i =
      ((c.cells.get i).sources.find? test).elim (fallbackStep c i (c.cells.get i).fallback) fun x =>
        some (sourceReport i x) := by
  have hlines : ∀ x ∈ (c.cells.get i).sources, x.line ≤ 127 := fun x hx => ((cellInRange_iff.1 h).2.1 x hx).1
  simp only [cellStep, h, hcell, Bool.not_true, Bool.false_eq_true, if_false, findSome?_sourceStep htest hlines]
  cases (c.cells.get i).sources.find? test <;> rfl

theorem lineInRange_iff {r : LineRecord} :
    lineInRange r = true ↔ -20000 ≤ r.zeroTrim ∧ r.zeroTrim ≤ 20000 ∧ 4000 ≤ r.span ∧ r.span ≤ 6000 :=
  decide_eq_true_iff

theorem lineStep_eq (c : Configuration) (l : LineIx) :
    lineStep c l =
      if ¬ lineInRange (c.lines.get l) = true then some { reason := .range, subject := some l.1 }
      else if 2 ≤ namingCells c l then some { reason := .lineReused, subject := some l.1 }
      else none := by
  unfold lineStep
  cases lineInRange (c.lines.get l) <;> rfl

/-! ### The scan (R14) -/

theorem firstReport_eq_or (a b : Option FailureReport) : firstReport a b = a.or b := by cases a <;> rfl

/-- The checks are one scan of the reports in their order. -/
theorem checkConfiguration_eq (c : Configuration) :
    checkConfiguration c =
      (globalStep c :: ((List.finRange 8).map (passStep c) ++ (List.finRange 640).map (cellStep c) ++
        (List.finRange 128).map (lineStep c))).findSome? fun r => r := by
  simp only [checkConfiguration, firstReport_eq_or, List.findSome?_cons, List.findSome?_append, List.findSome?_map,
    Option.or_assoc]
  cases globalStep c <;> rfl

/-- Settles O26: the claim's judgement by the report of its staged copy, and the report as one scan of the steps. -/
theorem commitJudged : Obligations.CommitJudged := by
  refine ⟨fun p tag s e hp hasks he howner hidle => ?judged, fun c global pass cell line hglobal hpass hcell hline => ?scan⟩
  case judged =>
    have hheld := heldBy_eq_some.2 ⟨he, howner⟩
    refine ⟨fun r hr => ?failed, fun hpassed => ⟨fun i hi hfirst => ?alarmed, fun hnone => ?accepted⟩⟩
    case failed =>
      have hbytes : reportBytes r = byte1 (reasonCode r.reason) ++ optIndexBytes r.subject := rfl
      refine (exec_of_owner (k := .commit) hasks (admission_commit hp)
        (ownCommit_of_report (payload := []) hheld hidle (commitReport_of_failed hr))).trans ?_
      rw [hbytes]
      cases r.subject <;> rfl
    case alarmed =>
      refine exec_of_owner (k := .commit) hasks (admission_commit hp)
        (ownCommit_of_report (payload := []) (r := ⟨.cellAlarmed, some i.1⟩) hheld hidle ?_)
      rw [commitReport_of_passed hpassed, alarmedVanishing_of_first hi fun j hj => not_lost (hfirst j hj)]
      rfl
    case accepted =>
      refine exec_of_owner (k := .commit) hasks (admission_commit hp) (ownCommit_of_accepted (payload := []) hheld hidle ?_)
      rw [commitReport_of_passed hpassed, alarmedVanishing_of_none fun j => not_lost (hnone j)]
      rfl
  case scan =>
    have hglobal' : global = globalStep c := by
      rw [hglobal _ rfl, globalStep_eq]
      simp only [globalInRange_iff]
    have hpass' : pass = passStep c := funext fun p => by
      rw [hpass p _ rfl, passStep_eq]
      simp only [passInRange_iff]
    have hcell' : cell = cellStep c := funext fun i => by
      rw [hcell i _ rfl]
      split
      · next hrange =>
        rw [cellStep_of_range (Bool.eq_false_iff.2 (mt cellInRange_iff.1 hrange))]
      · next hrange =>
        have hrange' := cellInRange_iff.2 (Classical.not_not.1 hrange)
        split
        · next hexists => rw [cellStep_of_outside hrange' hexists]
        · next hexists =>
          have htest : ∀ x : SourceItem,
              (fun x : SourceItem => decide (x.line % 16 = 0 ∨ ∀ l : LineIx, l.1 = x.line → (c.lines.get l).fitted = false))
                x = true ↔ badSource c x := fun x => decide_eq_true_iff
          rw [cellStep_of_existing hrange' (eq_true_of_ne_false hexists) htest]
          cases (c.cells.get i).sources.find? _ with
          | some x => rfl
          | none =>
            cases (c.cells.get i).fallback with
            | none => rfl
            | some f => exact (fallbackStep_eq c i f).symm
    have hline' : line = lineStep c := funext fun l => by
      rw [hline l _ rfl, lineStep_eq]
      simp only [lineInRange_iff]
      rfl
    rw [hglobal', hpass', hcell', hline', checkConfiguration_eq]

end Sys2Proof.Proofs.Commits

/-! PROOF. What grows old: the claim, the batch, the readings and the scan entries (R38, R96, R97, R135). -/
namespace Sys2Proof.Proofs.Expiries
open Sys2Proof Sys2Proof.Machine

theorem running_elapse {s : State} (ms : Nat) (h : s.stage = .running) : (elapse ms s).running = true := by
  simp [State.running, h]

/-! ### The claim (R135) -/

theorem claimExpiryEvent_of_due {u : State} {e : EditClaim} {t : Word} (hrunning : u.running = true)
    (he : u.edit = some e) (ht : e.timer = some t) (hdue : claimLife ≤ age u.timebase.partTime t) :
    claimExpiryEvent u = notify e.holder .claimExpired { u with edit := none } := by
  simp only [claimExpiryEvent, he, ht]
  rw [if_pos ⟨hrunning, hdue⟩]
  rfl

theorem claimExpiryEvent_of_young {u : State} {e : EditClaim} {t : Word} (he : u.edit = some e)
    (ht : e.timer = some t) (hyoung : age u.timebase.partTime t < claimLife) : claimExpiryEvent u = u := by
  simp only [claimExpiryEvent, he, ht]
  rw [if_neg fun h => Nat.not_le.2 hyoung h.2]

theorem claimExpiryEvent_of_untimed {u : State} (h : ∀ e t, u.edit = some e → e.timer ≠ some t) :
    claimExpiryEvent u = u := by
  unfold claimExpiryEvent
  split
  · rfl
  · next e he =>
    split
    · rfl
    · next t ht => exact absurd ht (h e t he)

/-! ### The batch (R96) -/

theorem batchExpiryEvent_of_due {u : State} {b : Batch} (hrunning : u.running = true) (hb : u.batch = some b)
    (hdue : batchLife ≤ age u.timebase.partTime b.lastActivity) :
    batchExpiryEvent u =
      notify b.owner .scanExpired (handFault .scan .scanExpired .none { u with batch := none }) := by
  simp only [batchExpiryEvent, hb]
  rw [if_pos ⟨hrunning, hdue⟩]

theorem batchExpiryEvent_of_young {u : State} {b : Batch} (hb : u.batch = some b)
    (hyoung : age u.timebase.partTime b.lastActivity < batchLife) : batchExpiryEvent u = u := by
  simp only [batchExpiryEvent, hb]
  rw [if_neg fun h => Nat.not_le.2 hyoung h.2]

theorem batchExpiryEvent_of_none {u : State} (hb : u.batch = none) : batchExpiryEvent u = u := by
  simp only [batchExpiryEvent, hb]

/-! ### Readings and scan entries (R38, R97) -/

theorem readingRetireEvent_of_due {u : State} {l : LineIx} (hrunning : u.running = true)
    (hstored : (u.readings.get l).status ≠ .none)
    (hdue : retireAge ≤ age u.timebase.partTime (u.readings.get l).stamp) :
    readingRetireEvent l u = { u with readings := put u.readings l Reading.blank } :=
  if_pos ⟨hrunning, hstored, hdue⟩

theorem readingRetireEvent_of_kept {u : State} {l : LineIx}
    (h : (u.readings.get l).status = .none ∨ age u.timebase.partTime (u.readings.get l).stamp < retireAge) :
    readingRetireEvent l u = u :=
  if_neg fun ⟨_, hstored, hdue⟩ => h.elim hstored fun hyoung => Nat.not_le.2 hyoung hdue

theorem scanEntryRetireEvent_of_due {u : State} {i : CellIx} {e : ScanEntry} (hrunning : u.running = true)
    (he : u.scanTable.get i = some e) (hdue : scanRetireAge ≤ age u.timebase.partTime e.stamp) :
    scanEntryRetireEvent i u = { u with scanTable := put u.scanTable i none } := by
  simp only [scanEntryRetireEvent, he]
  rw [if_pos ⟨hrunning, hdue⟩]

theorem scanEntryRetireEvent_of_young {u : State} {i : CellIx} {e : ScanEntry} (he : u.scanTable.get i = some e)
    (hyoung : age u.timebase.partTime e.stamp < scanRetireAge) : scanEntryRetireEvent i u = u := by
  simp only [scanEntryRetireEvent, he]
  rw [if_neg fun h => Nat.not_le.2 hyoung h.2]

theorem scanEntryRetireEvent_of_none {u : State} {i : CellIx} (he : u.scanTable.get i = none) :
    scanEntryRetireEvent i u = u := by
  simp only [scanEntryRetireEvent, he]

/-- Settles O27: each expiry at its age, before it, and with nothing to expire. -/
theorem oldThingsExpire : Obligations.OldThingsExpire := by
  refine ⟨?_, ?_⟩
  · rintro ms s u hrunning rfl
    have hkept := running_elapse ms hrunning
    exact ⟨fun e t he ht => ⟨fun hdue => congrArg Host.Outcome.next (claimExpiryEvent_of_due hkept he ht hdue),
        fun hyoung => congrArg Host.Outcome.next (claimExpiryEvent_of_young he ht hyoung)⟩,
      fun b hb => ⟨fun hdue => congrArg Host.Outcome.next (batchExpiryEvent_of_due hkept hb hdue),
        fun hyoung => congrArg Host.Outcome.next (batchExpiryEvent_of_young hb hyoung)⟩,
      fun hnone => congrArg Host.Outcome.next (claimExpiryEvent_of_untimed hnone),
      fun hnone => congrArg Host.Outcome.next (batchExpiryEvent_of_none hnone)⟩
  · rintro l i ms s u hrunning rfl
    have hkept := running_elapse ms hrunning
    exact ⟨fun hstored => ⟨fun hdue => congrArg Host.Outcome.next (readingRetireEvent_of_due hkept hstored hdue),
        fun hyoung => congrArg Host.Outcome.next (readingRetireEvent_of_kept (.inr hyoung))⟩,
      fun hnone => congrArg Host.Outcome.next (readingRetireEvent_of_kept (.inl hnone)),
      fun hnone => congrArg Host.Outcome.next (scanEntryRetireEvent_of_none hnone),
      fun e he => ⟨fun hdue => congrArg Host.Outcome.next (scanEntryRetireEvent_of_due hkept he hdue),
        fun hyoung => congrArg Host.Outcome.next (scanEntryRetireEvent_of_young he hyoung)⟩⟩

end Sys2Proof.Proofs.Expiries

/-! PROOF. The scan unit's requests on a batch (R90 to R94). -/
namespace Sys2Proof.Proofs.ScanRequests
open Sys2Proof Sys2Proof.Machine Sys2Proof.Proofs.ScanBatches Sys2Proof.Proofs.Samples Sys2Proof.Proofs.Forms
open Sys2Proof.Proofs.Editing

/-! ### SCAN_CLOSE (R94) -/

theorem applyBuffer_of_unnamed {stamp : Word} {buffer : List Sample} {table : Vector (Option ScanEntry) 640} {i : CellIx}
    (h : ∀ x ∈ buffer, x.cell ≠ i) : (applyBuffer stamp buffer table).get i = table.get i := by
  induction buffer generalizing table with
  | nil => rfl
  | cons x buffer ih =>
    have hrest := ih (table := put table x.cell (some { temperature := x.temperature, stamp := stamp }))
      fun y hy => h y (List.mem_cons_of_mem x hy)
    exact hrest.trans (put_get_ne _ _ _ _ (h x List.mem_cons_self))

theorem applyBuffer_of_named {stamp : Word} {buffer : List Sample} {table : Vector (Option ScanEntry) 640} {x : Sample}
    (hcells : (buffer.map fun x => x.cell).Nodup) (hx : x ∈ buffer) :
    (applyBuffer stamp buffer table).get x.cell = some { temperature := x.temperature, stamp := stamp } := by
  induction buffer generalizing table with
  | nil => cases hx
  | cons y buffer ih =>
    obtain ⟨hy, hrest⟩ := List.nodup_cons.1 hcells
    have hstep : applyBuffer stamp (y :: buffer) table =
        applyBuffer stamp buffer (put table y.cell (some { temperature := y.temperature, stamp := stamp })) := rfl
    rw [hstep]
    obtain rfl | hx := List.mem_cons.1 hx
    · rw [applyBuffer_of_unnamed fun z hz heq => hy (List.mem_map.2 ⟨z, hz, heq⟩), put_get_self]
    · exact ih hrest hx

theorem ownScanClose_of_none {p : Port} {payload : List Byte} {s : State} (h : s.batch = none) :
    ownScanClose p payload s = (s, codeOnly .noBatch) := by
  simp only [ownScanClose, h]

theorem ownScanClose_of_some {p : Port} {payload : List Byte} {s : State} {b : Batch} (h : s.batch = some b) :
    ownScanClose p payload s =
      ({ s with batch := none, scanTable := applyBuffer s.timebase.partTime b.buffer s.scanTable },
        okWith (be16 b.buffer.length)) := by
  simp only [ownScanClose, h]

/-- Settles O30: the buffer applied entry by entry. -/
theorem scanCloseAppliesBuffer : Obligations.ScanCloseAppliesBuffer := by
  refine fun tag s hasks => ⟨fun hnone => ?noBatch, fun b hb hcells =>
    ⟨applyBuffer s.timebase.partTime b.buffer s.scanTable, fun x hx => applyBuffer_of_named hcells hx,
      fun i hi => applyBuffer_of_unnamed hi, ?closes⟩⟩
  case noBatch =>
    exact exec_of_owner (k := .scanClose) hasks rfl (ownScanClose_of_none (p := .service) (payload := []) hnone)
  case closes =>
    exact exec_of_owner (k := .scanClose) hasks rfl (ownScanClose_of_some (p := .service) (payload := []) hb)

/-! ### One sample (R92, R93) -/

theorem tempOk_iff {t : Int} : tempOk t = true ↔ -500 ≤ t ∧ t ≤ 13500 := decide_eq_true_iff

theorem handleSample_of_bad {c : Configuration} {run : PutRun} {n : Nat} {temp : Int}
    (h : temp < -500 ∨ 13500 < temp ∨ ∀ i : CellIx, i.1 = n → cellExists c i = false) :
    handleSample c run (n, temp) = rejectSample n run := by
  unfold handleSample
  split
  · rfl
  · next i hi =>
    have hexists := (existingCell?_some c n i).1 hi
    have htemp : tempOk temp = false := Bool.eq_false_iff.2 fun hok => by
      obtain ⟨hlo, hhi⟩ := tempOk_iff.1 hok
      obtain h | h | h := h
      · omega
      · omega
      · rw [h i hexists.1] at hexists
        cases hexists.2
    simp only [htemp, Bool.not_false, if_true]

theorem handleSample_of_good {c : Configuration} {run : PutRun} {n : Nat} {temp : Int} {i : CellIx} (hi : i.1 = n)
    (hcell : cellExists c i = true) (hlo : -500 ≤ temp) (hhi : temp ≤ 13500) :
    handleSample c run (n, temp) =
      if buffered i run.batch.buffer then
        { run with
          batch := { run.batch with buffer := putSample { cell := i, temperature := temp } run.batch.buffer }
          tally := { run.tally with replaced := run.tally.replaced + 1 } }
      else if 256 ≤ run.batch.buffer.length then
        { run with tally := { run.tally with refused := run.tally.refused + 1 } }
      else
        { run with
          batch := { run.batch with buffer := putSample { cell := i, temperature := temp } run.batch.buffer }
          tally := { run.tally with accepted := run.tally.accepted + 1 } } := by
  simp only [handleSample, (existingCell?_some c n i).2 ⟨hi, hcell⟩, tempOk_iff.2 ⟨hlo, hhi⟩, Bool.not_true,
    Bool.false_eq_true, if_false]
  rfl

theorem buffered_eq_false {i : CellIx} {buffer : List Sample} (h : ∀ x ∈ buffer, x.cell ≠ i) :
    buffered i buffer = false :=
  Bool.eq_false_iff.2 fun hbuffered => by
    obtain ⟨x, hx, hcell⟩ := buffered_iff.1 hbuffered
    exact h x hx hcell

/-! ### The samples of a payload (R92) -/

/-- A sample as it stands in a payload: the cell number, and the two bytes of the temperature. -/
def sampleForm (x : Nat × Byte × Byte) : List Byte := be16 x.1 ++ [x.2.1, x.2.2]

/-- A sample of a payload as it is handled. -/
def sampleValue (x : Nat × Byte × Byte) : Nat × Int := (x.1, readSigned16 x.2.1 x.2.2)

theorem readSamples_sampleForm {xs : List (Nat × Byte × Byte)} (h : ∀ x ∈ xs, x.1 < 65536) :
    readSamples (xs.flatMap sampleForm) = some (xs.map sampleValue) := by
  induction xs with
  | nil => rfl
  | cons x xs ih =>
    obtain ⟨n, t1, t0⟩ := x
    have hn : n < 65536 := h _ List.mem_cons_self
    have hrest := ih fun y hy => h y (List.mem_cons_of_mem _ hy)
    rw [List.flatMap_cons]
    generalize xs.flatMap sampleForm = tail at hrest
    simp only [sampleForm, be16, List.cons_append, List.nil_append, readSamples, hrest]
    rw [read16_be16 hn]
    rfl

theorem sampleForm_of_readSamples {bytes : List Byte} {ys : List (Nat × Int)} (h : readSamples bytes = some ys) :
    ∃ xs : List (Nat × Byte × Byte), (∀ x ∈ xs, x.1 < 65536) ∧ bytes = xs.flatMap sampleForm ∧ ys = xs.map sampleValue := by
  induction bytes using readSamples.induct generalizing ys with
  | case1 => cases h; exact ⟨[], by simp, rfl, rfl⟩
  | case2 c1 c0 t1 t0 bytes zs hzs ih =>
    rw [readSamples, hzs] at h
    cases h
    obtain ⟨xs, hsmall, hbytes, hvalues⟩ := ih hzs
    refine ⟨(read16 c1 c0, t1, t0) :: xs, ?_, ?_, ?_⟩
    · intro x hx
      obtain rfl | hx := List.mem_cons.1 hx
      · exact read16_lt c1 c0
      · exact hsmall x hx
    · rw [List.flatMap_cons, sampleForm, be16_read16, hbytes]
      rfl
    · rw [hvalues]
      rfl
  | case3 c1 c0 t1 t0 bytes hnone ih =>
    rw [readSamples, hnone] at h
    cases h
  | case4 bytes hnil hcons =>
    unfold readSamples at h
    split at h
    · exact absurd rfl hnil
    · exact absurd rfl (hcons _ _ _ _ _)
    · cases h

/-- A payload carries these samples: a count of 1 to 12 and that many. -/
def Carries (payload : List Byte) (xs : List (Nat × Byte × Byte)) : Prop :=
  1 ≤ xs.length ∧ xs.length ≤ 12 ∧ (∀ x ∈ xs, x.1 < 65536) ∧
    payload = BitVec.ofNat 8 xs.length :: xs.flatMap sampleForm

theorem putSamples_of_carries {payload : List Byte} {xs : List (Nat × Byte × Byte)} (h : Carries payload xs) :
    putSamples payload = some (xs.map sampleValue) := by
  obtain ⟨hmin, hmax, hsmall, rfl⟩ := h
  simp only [putSamples, readSamples_sampleForm hsmall, toNat_byte (n := xs.length) (by omega), List.length_map]
  rw [if_pos ⟨hmin, hmax, trivial⟩]

theorem carries_of_putSamples {payload : List Byte} {ys : List (Nat × Int)} (h : putSamples payload = some ys) :
    ∃ xs, Carries payload xs := by
  unfold putSamples at h
  split at h
  · next n rest =>
    split at h
    · next zs hzs =>
      split at h
      · next hcount =>
        obtain ⟨hmin, hmax, hlen⟩ := hcount
        obtain ⟨xs, hsmall, hrest, hvalues⟩ := sampleForm_of_readSamples hzs
        have hlength : xs.length = n.toNat := by rw [← hlen, hvalues, List.length_map]
        refine ⟨xs, by omega, by omega, hsmall, ?_⟩
        rw [hrest, hlength, byte_toNat]
      · cases h
    · cases h
  · cases h

theorem putSamples_of_none {payload : List Byte} (h : ∀ xs, ¬ Carries payload xs) : putSamples payload = none :=
  Option.eq_none_iff_forall_ne_some.2 fun _ hys => (carries_of_putSamples hys).elim h

/-! ### SCAN_PUT (R92, R93) -/

theorem ownScanPut_of_none {p : Port} {payload : List Byte} {s : State} (h : s.batch = none) :
    ownScanPut p payload s = (s, codeOnly .noBatch) := by
  simp only [ownScanPut, h]

theorem ownScanPut_of_range {p : Port} {payload : List Byte} {s : State} {b : Batch} (h : s.batch = some b)
    (hpayload : putSamples payload = none) : ownScanPut p payload s = (s, codeOnly .range) := by
  simp only [ownScanPut, h, hpayload]

theorem ownScanPut_of_samples {p : Port} {payload : List Byte} {s : State} {b : Batch} {ys : List (Nat × Int)}
    (h : s.batch = some b) (hpayload : putSamples payload = some ys) {run : PutRun}
    (hrun : run = runPut s.active.config b ys) :
    ownScanPut p payload s =
      (logRejection run.logged { s with batch := some { run.batch with lastActivity := s.timebase.partTime } },
        putReply run.tally) := by
  simp only [ownScanPut, h, hpayload, hrun]

theorem admission_scanPut (n : Nat) : admission .scanPut .service n = none := rfl

/-- Settles O31: one sample by the tests of R92, a payload by the samples it carries, and the buffer's order. -/
theorem scanPutJudged : Obligations.ScanPutJudged := by
  refine ⟨fun c run n temp => ⟨fun hbad => ?rejected, fun i hi hcell hlo hhi => ⟨fun hbuffered => ?replaced,
      fun hnew hfull => ?refused, fun hnew hroom => ?accepted⟩⟩,
    fun tag payload s hasks => ⟨fun hnone => ?noBatch, fun b hb => ⟨fun hrange => ?range,
      fun xs run hmin hmax hsmall hpayload hrun => ?handled⟩⟩,
    fun x buffer hbuffer => ⟨ascending_putSample x hbuffer, fun y => mem_putSample hbuffer,
      length_putSample_of_mem hbuffer, length_putSample_of_new⟩⟩
  case rejected =>
    refine (handleSample_of_bad hbad).trans ?_
    unfold rejectSample rejectionDetail
    cases cellIx? n <;> rfl
  case replaced => rw [handleSample_of_good hi hcell hlo hhi, buffered_iff.2 hbuffered, if_pos rfl]
  case refused =>
    rw [handleSample_of_good hi hcell hlo hhi, buffered_eq_false hnew, if_neg Bool.false_ne_true, if_pos hfull]
  case accepted =>
    rw [handleSample_of_good hi hcell hlo hhi, buffered_eq_false hnew, if_neg Bool.false_ne_true,
      if_neg (Nat.not_le.2 hroom)]
  case noBatch => exact exec_of_owner (k := .scanPut) hasks rfl (ownScanPut_of_none (p := .service) hnone)
  case range =>
    refine exec_of_owner (k := .scanPut) hasks rfl (ownScanPut_of_range (p := .service) hb (putSamples_of_none ?_))
    exact fun xs ⟨hmin, hmax, hsmall, hpayload⟩ => hrange xs hmin hmax hsmall hpayload
  case handled =>
    have hcarries : Carries payload xs := ⟨hmin, hmax, hsmall, hpayload⟩
    refine (exec_of_owner (k := .scanPut) hasks rfl
      (ownScanPut_of_samples (p := .service) hb (putSamples_of_carries hcarries) hrun)).trans ?_
    cases run.logged <;> rfl

end Sys2Proof.Proofs.ScanRequests

/-! PROOF. The store and the restart request (R156, R172, R173, R177, R178). -/
namespace Sys2Proof.Proofs.StoreAndRestart
open Sys2Proof Sys2Proof.Machine Sys2Proof.Proofs.Sequences Sys2Proof.Proofs.ScanBatches Sys2Proof.Proofs.Editing
open Sys2Proof.Proofs.Transactions Sys2Proof.Proofs.AlarmUnit Sys2Proof.Proofs.HighHigh Sys2Proof.Proofs.Expiries

/-! ### The flash (R176) -/

theorem eraseFlash_eq (f : Flash) : eraseFlash f = if f.ident = .part then { f with region := [] } else f := by
  simp only [eraseFlash, flashPresent, decide_eq_true_eq]

theorem programFlash_of_part {f : Flash} (a : Nat) (bytes : List Byte) (h : f.ident = .part) :
    programFlash a bytes f = { f with region := writeBytes f.region a bytes } := by
  simp [programFlash, flashPresent, h]

theorem programFlash_of_absent {f : Flash} (a : Nat) (bytes : List Byte) (h : f.ident ≠ .part) :
    programFlash a bytes f = f := by
  simp [programFlash, flashPresent, h]

theorem misreadFlash_eq (misread : List (Nat × Byte)) (f : Flash) :
    misreadFlash misread f = if f.ident = .part then { f with region := writeCells f.region misread } else f := by
  simp only [misreadFlash, flashPresent, decide_eq_true_eq]

theorem writeEnd_flash (misread : List (Nat × Byte)) (bytes : List Byte) (f : Flash) :
    misreadFlash misread (programFlash 4 bytes f) =
      if f.ident = .part then { f with region := writeCells (writeBytes f.region 4 bytes) misread } else f := by
  by_cases h : f.ident = .part
  · rw [programFlash_of_part 4 bytes h, misreadFlash_eq, if_pos h, if_pos h]
  · rw [programFlash_of_absent 4 bytes h, misreadFlash_eq, if_neg h, if_neg h]

/-- A region reads back as written exactly when each of its bytes does. -/
theorem readBytes_eq_iff {m : Memory} {a : Nat} {bytes : List Byte} :
    readBytes m a bytes.length = bytes ↔ ∀ k, k < bytes.length → bytes[k]? = some (readByte m (a + k)) := by
  constructor
  · intro h k hk
    conv =>
      lhs
      rw [← h]
    simp [readBytes, hk]
  · intro h
    apply List.ext_getElem
    · simp [readBytes]
    · intro k h1 h2
      have hk := h k h2
      rw [List.getElem?_eq_getElem h2] at hk
      simp [readBytes, Option.some.inj hk]

theorem verifies_iff {x : StoreOp} {f : Flash} :
    verifies x f = true ↔ f.ident = .part ∧
      ∀ k, k < (storedBytes x).length → (storedBytes x)[k]? = some (readByte f.region (4 + k)) := by
  rw [verifies, Bool.and_eq_true, decide_eq_true_iff, readBytes_eq_iff, flashPresent, decide_eq_true_iff]

/-! ### STORE_IMAGE (R177) -/

theorem admission_storeImage {p : Port} (hp : p ≠ .trip) : admission .storeImage p 0 = none :=
  admission_of_length_eq (decide_eq_true hp) rfl

theorem ownStoreImage_of_strap {p : Port} {payload : List Byte} {s : State} (h : s.strap = true) :
    ownStoreImage p payload s = (s, codeOnly .noFlash) := if_pos h

theorem ownStoreImage_of_busy {p : Port} {payload : List Byte} {s : State} (h : s.strap = false)
    (hbusy : s.store ≠ none ∨ s.restartPending ≠ none) : ownStoreImage p payload s = (s, codeOnly .storeBusy) := by
  have hbusy' : s.store.isSome = true ∨ s.restartPending.isSome = true :=
    hbusy.imp Option.isSome_iff_ne_none.2 Option.isSome_iff_ne_none.2
  simp only [ownStoreImage, h, Bool.false_eq_true, if_false, if_pos hbusy']

theorem ownStoreImage_of_begun {p : Port} {payload : List Byte} {s : State} (h : s.strap = false)
    (hstore : s.store = none) (hrestart : s.restartPending = none) :
    ownStoreImage p payload s =
      ({ s with
         store := some { port := p, stage := .erase, config := s.active.config, generation := s.active.generation }
         flash := if s.flash.ident = .part then { s.flash with region := [] } else s.flash }, codeOnly .ok) := by
  rw [← eraseFlash_eq]
  simp [ownStoreImage, h, hstore, hrestart]

/-- Settles O32: the strap, what is in flight, then the start of a store. -/
theorem storeImageBegins : Obligations.StoreImageBegins := by
  refine fun p tag s hp hasks => ⟨fun hstrap => ?strap, fun hstrap hbusy => ?busy, fun hstrap hstore hrestart => ?begun⟩
  case strap =>
    exact exec_of_owner (k := .storeImage) hasks (admission_storeImage hp) (ownStoreImage_of_strap (payload := []) hstrap)
  case busy =>
    exact exec_of_owner (k := .storeImage) hasks (admission_storeImage hp)
      (ownStoreImage_of_busy (payload := []) hstrap hbusy)
  case begun =>
    exact exec_of_owner (k := .storeImage) hasks (admission_storeImage hp)
      (ownStoreImage_of_begun (payload := []) hstrap hstore hrestart)

/-! ### The events of a store (R177, R178) -/

theorem eraseEndEvent_of_erase {s : State} {x : StoreOp} (hx : s.store = some x) (h : x.stage = .erase) :
    eraseEndEvent s = { s with store := some { x with stage := .write } } := by
  simp only [eraseEndEvent, hx, h]

theorem eraseEndEvent_of_other {s : State} {x : StoreOp} (hx : s.store = some x) (h : x.stage ≠ .erase) :
    eraseEndEvent s = s := by
  simp only [eraseEndEvent, hx]
  split
  · next hstage => exact absurd hstage h
  · rfl
  · rfl

theorem writeEndEvent_of_write {s : State} {x : StoreOp} (misread : List (Nat × Byte)) (hx : s.store = some x)
    (h : x.stage = .write) :
    writeEndEvent misread s =
      { s with store := some { x with stage := .verify }
               flash := misreadFlash misread (programFlash 4 (storedBytes x) s.flash) } := by
  simp only [writeEndEvent, hx, h]

theorem writeEndEvent_of_other {s : State} {x : StoreOp} (misread : List (Nat × Byte)) (hx : s.store = some x)
    (h : x.stage ≠ .write) : writeEndEvent misread s = s := by
  simp only [writeEndEvent, hx]
  split
  · next hstage => exact absurd hstage h
  · rfl
  · rfl

theorem storeCompletionEvent_of_verify {s : State} {x : StoreOp} (hx : s.store = some x) (h : x.stage = .verify) :
    storeCompletionEvent s =
      if verifies x s.flash then
        notify x.port .storeDone { s with store := none, flash := programFlash 0 imageMarker s.flash }
      else notify x.port .storeFailed (handFault .store .storeVerify .none { s with store := none }) := by
  simp only [storeCompletionEvent, hx, h]

theorem storeCompletionEvent_of_other {s : State} {x : StoreOp} (hx : s.store = some x) (h : x.stage ≠ .verify) :
    storeCompletionEvent s = s := by
  simp only [storeCompletionEvent, hx]
  split
  · next hstage => exact absurd hstage h
  · rfl
  · rfl

theorem eraseEndEvent_of_none {s : State} (h : s.store = none) : eraseEndEvent s = s := by simp only [eraseEndEvent, h]

theorem writeEndEvent_of_none {s : State} (misread : List (Nat × Byte)) (h : s.store = none) :
    writeEndEvent misread s = s := by simp only [writeEndEvent, h]

theorem storeCompletionEvent_of_none {s : State} (h : s.store = none) : storeCompletionEvent s = s := by
  simp only [storeCompletionEvent, h]

/-- Settles O33: each event in its stage, and out of it. -/
theorem storeRunsToItsEnd : Obligations.StoreRunsToItsEnd := by
  refine fun s misread => ⟨fun hnone => ?none, fun x hx => ⟨fun hstage => ?erase, fun hstage => ?write,
    fun hstage written hwritten => ?verify⟩⟩
  case none =>
    exact ⟨congrArg Host.Outcome.next (eraseEndEvent_of_none hnone),
      congrArg Host.Outcome.next (writeEndEvent_of_none misread hnone),
      congrArg Host.Outcome.next (storeCompletionEvent_of_none hnone)⟩
  case erase =>
    exact ⟨congrArg Host.Outcome.next (eraseEndEvent_of_erase hx hstage),
      congrArg Host.Outcome.next (writeEndEvent_of_other misread hx (by simp [hstage])),
      congrArg Host.Outcome.next (storeCompletionEvent_of_other hx (by simp [hstage]))⟩
  case write =>
    refine ⟨congrArg Host.Outcome.next (eraseEndEvent_of_other hx (by simp [hstage])),
      congrArg Host.Outcome.next (storeCompletionEvent_of_other hx (by simp [hstage])),
      congrArg Host.Outcome.next ((writeEndEvent_of_write misread hx hstage).trans ?_)⟩
    rw [writeEnd_flash]
    rfl
  case verify =>
    obtain rfl : written = storedBytes x := hwritten
    refine ⟨congrArg Host.Outcome.next (eraseEndEvent_of_other hx (by simp [hstage])),
      congrArg Host.Outcome.next (writeEndEvent_of_other misread hx (by simp [hstage])),
      fun hpart hbytes => congrArg Host.Outcome.next ((storeCompletionEvent_of_verify hx hstage).trans ?done),
      fun hbad => congrArg Host.Outcome.next ((storeCompletionEvent_of_verify hx hstage).trans ?failed)⟩
    case done =>
      rw [if_pos (verifies_iff.2 ⟨hpart, hbytes⟩), programFlash_of_part 0 imageMarker hpart]
      rfl
    case failed =>
      refine if_neg fun hverifies => ?_
      obtain ⟨hpart, hbytes⟩ := verifies_iff.1 hverifies
      exact hbad.elim (fun h => h hpart) fun ⟨k, hk, hne⟩ => hne (hbytes k hk)

/-! ### RESTART (R156, R172) -/

theorem ownRestart_of_busy {p : Port} {payload : List Byte} {s : State} (h : s.store ≠ none) :
    ownRestart p payload s = (s, codeOnly .storeBusy) := if_pos (Option.isSome_iff_ne_none.2 h)

theorem ownRestart_of_idle {p : Port} {payload : List Byte} {s : State} (h : s.store = none)
    (hrestart : s.restartPending = none) :
    ownRestart p payload s = ({ s with restartPending := some s.timebase.partTime }, codeOnly .ok) := by
  simp [ownRestart, h, hrestart]

theorem ownRestart_of_pending {p : Port} {payload : List Byte} {s : State} {t : Word} (h : s.store = none)
    (hrestart : s.restartPending = some t) : ownRestart p payload s = (s, codeOnly .ok) := by
  simp [ownRestart, h, hrestart]

theorem restartPendingExpiryEvent_of_due {u : State} {t : Word} (hrunning : u.running = true)
    (ht : u.restartPending = some t) (hdue : restartDelay ≤ age u.timebase.partTime t) :
    restartPendingExpiryEvent u = beginWarm .request u := by
  simp only [restartPendingExpiryEvent, ht]
  rw [if_pos ⟨hrunning, hdue⟩]

theorem restartPendingExpiryEvent_of_young {u : State} {t : Word} (ht : u.restartPending = some t)
    (hyoung : age u.timebase.partTime t < restartDelay) : restartPendingExpiryEvent u = u := by
  simp only [restartPendingExpiryEvent, ht]
  rw [if_neg fun h => Nat.not_le.2 hyoung h.2]

/-- A sequence whose hold check passes reaches RUNNING at once, with what it began with. -/
theorem beginWarm_of_passed {cause : RestartCause} {s : State} (hwarm : warmCause cause = true)
    (hreset : s.pins.resetLow = false) (hcore : s.pins.coreLow = false) (hhold : holdPasses s = true) :
    beginWarm cause s = keepHold (abandon cause s) := by
  rw [beginWarm, passHeld_of_high (s := abandon cause s) hreset hcore, leaveHeld_of_warm (s := abandon cause s) hwarm,
    checkHold_of_passed (s := abandon cause s) hhold]

theorem beginWarm_of_failed {cause : RestartCause} {s : State} (hwarm : warmCause cause = true)
    (hreset : s.pins.resetLow = false) (hcore : s.pins.coreLow = false) (hhold : holdPasses s = false) :
    beginWarm cause s = loseHold (abandon cause s) := by
  rw [beginWarm, passHeld_of_high (s := abandon cause s) hreset hcore, leaveHeld_of_warm (s := abandon cause s) hwarm,
    checkHold_of_failed (s := abandon cause s) hhold]

theorem holdPasses_iff {s : State} :
    holdPasses s = true ↔ s.pins.holdSupply = true ∧ s.hold.check = holdCrc s.hold.contents := by
  rw [holdPasses, Bool.and_eq_true, decide_eq_true_iff]

theorem holdPasses_eq_false {s : State} :
    holdPasses s = false ↔ s.pins.holdSupply = false ∨ s.hold.check ≠ holdCrc s.hold.contents := by
  rw [Bool.eq_false_iff, Ne, holdPasses_iff, Classical.not_and_iff_not_or_not, Bool.not_eq_true]

theorem keepHold_restartPending (s : State) : (keepHold s).restartPending = s.restartPending := by
  simp [keepHold, reachRunning, driveAlerts]

theorem keepHold_lastCause (s : State) : (keepHold s).hold.contents.lastCause = s.cause := by
  simp [keepHold, reachRunning, driveAlerts, retain, writeHold, sealHold]

theorem loseHold_restartPending (s : State) : (loseHold s).restartPending = s.restartPending := by
  simp [loseHold, clearForCold, clearAlarms]

/-- With RESET_N high already, its return does what the start of the sequence did. -/
theorem resetHeldEndEvent_of_abandoned {s : State} (hreset : s.pins.resetLow = false) :
    resetHeldEndEvent .resetPin (abandon .request s) = beginWarm .request s := by
  have hpins : releaseLevel .resetPin s.pins = s.pins := by
    rw [releaseLevel, ← hreset]
  have hheld : resetHeldEndEvent .resetPin (abandon .request s) =
      passHeld { abandon .request s with pins := releaseLevel .resetPin s.pins } := if_pos rfl
  rw [hheld, hpins]
  rfl

/-- Settles O34: the request, the expiry and the poll that begin it, and the sequence of its cause. -/
theorem restartPendsAndBegins : Obligations.RestartPendsAndBegins := by
  refine ⟨fun tag s hasks => ⟨fun hstore => ?busy, fun hstore hnone => ?pends, fun t hstore hpending => ?stays⟩,
    ?_, fun s r hr => ⟨fun hlow => ?low, fun hreset hcore => ⟨?released, fun hfailed => ?failed⟩⟩⟩
  case busy => exact exec_of_owner (k := .restart) hasks rfl (ownRestart_of_busy (p := .service) (payload := []) hstore)
  case pends =>
    exact exec_of_owner (k := .restart) hasks rfl (ownRestart_of_idle (p := .service) (payload := []) hstore hnone)
  case stays =>
    exact exec_of_owner (k := .restart) hasks rfl (ownRestart_of_pending (p := .service) (payload := []) hstore hpending)
  case low => subst hr; exact passHeld_of_low (s := abandon .request s) hlow
  case released =>
    subst hr
    exact congrArg Host.Outcome.next (resetHeldEndEvent_of_abandoned hreset)
  case failed =>
    rw [beginWarm_of_failed rfl hreset hcore (holdPasses_eq_false.2 hfailed)]
    exact ⟨loseHold_stage _, loseHold_cause _, loseHold_restartPending _⟩
  rintro s u ms t hrunning rfl hpending
  have hpending' : (elapse ms s).restartPending = some t := by simpa using hpending
  refine ⟨fun hdue => ?due, fun hyoung => ?young, fun r n frame hslot hkind hframe hn => ?poll,
    fun hreset hcore hsupply hcheck => ?passed⟩
  case due =>
    exact congrArg Host.Outcome.next (restartPendingExpiryEvent_of_due (running_elapse ms hrunning) hpending' hdue)
  case young => exact congrArg Host.Outcome.next (restartPendingExpiryEvent_of_young hpending' hyoung)
  case poll =>
    subst hframe
    have hlength : (responseFrame s.ports.service).length = 7 := by
      unfold responseFrame
      rw [hslot]
      rfl
    have hdelivers : Delivers .service n s :=
      ⟨Nat.le_trans (Nat.le_of_eq hlength) hn, restartAnswered_iff.2 ⟨r, _, hslot, hkind, rfl⟩, rfl, by rw [hpending]; rfl⟩
    rw [exec_poll .service hrunning (by omega), takePoll_of_delivers hdelivers]
    rfl
  case passed =>
    rw [beginWarm_of_passed rfl hreset hcore (holdPasses_iff.2 ⟨hsupply, hcheck⟩)]
    exact ⟨keepHold_stage _, keepHold_restartPending _, keepHold_lastCause _⟩

end Sys2Proof.Proofs.StoreAndRestart

/-! PROOF. The timebase unit: the crystal, the lock detector and the acquisition's timers (R46 to R58). -/
namespace Sys2Proof.Proofs.TimebaseUnit
open Sys2Proof Sys2Proof.Machine Sys2Proof.Proofs.Expiries

theorem running_of_stage {s : State} (h : s.stage = .running) : s.running = true := by simp [State.running, h]

theorem timerAt_some (ms k : Nat) : timerAt ms (some k) = true ↔ ms ≤ k := decide_eq_true_iff

/-! ### The crystal (R46 to R48) -/

theorem crystalEdgeEvent_of_running {s : State} (hrunning : s.running = true) :
    crystalEdgeEvent s = { s with timebase := { s.timebase with
      gapArmed := true
      proving := if s.timebase.state = .holdover ∧ s.timebase.proving = none then some 0 else s.timebase.proving } } := by
  rw [crystalEdgeEvent, if_pos hrunning]
  split
  · next hstate hproving => rw [if_pos ⟨hstate, hproving⟩]
  · next hnot => rw [if_neg fun h => hnot h.1 h.2]

theorem crystalGapEvent_of_holdover {s : State} (hrunning : s.running = true) (harmed : s.timebase.gapArmed = true)
    (hstate : s.timebase.state = .holdover) :
    crystalGapEvent s = { s with timebase := { s.timebase with proving := none, gapArmed := false } } := by
  rw [crystalGapEvent, if_pos ⟨hrunning, harmed⟩, hstate]

theorem crystalGapEvent_of_clocked {s : State} (hrunning : s.running = true) (harmed : s.timebase.gapArmed = true)
    (hstate : s.timebase.state ≠ .holdover) : crystalGapEvent s = crystalFailure s := by
  rw [crystalGapEvent, if_pos ⟨hrunning, harmed⟩]
  split
  · next hholdover => exact absurd hholdover hstate
  · rfl
  · rfl
  · rfl

theorem crystalRestoreEvent_of_proved {u : State} {t : Nat} (hrunning : u.running = true)
    (hstate : u.timebase.state = .holdover) (hproving : u.timebase.proving = some t) (hdue : 64 ≤ t) :
    crystalRestoreEvent u = if multiplierEnabled u then startAcquisition (goBypass u) else goBypass u :=
  if_pos ⟨hrunning, hstate, by rw [hproving]; exact (timerAt_some 64 t).2 hdue⟩

theorem crystalRestoreEvent_of_unproved {u : State} {t : Nat} (hproving : u.timebase.proving = some t) (hearly : t < 64) :
    crystalRestoreEvent u = u :=
  if_neg fun ⟨_, _, hdue⟩ => Nat.not_le.2 hearly ((timerAt_some 64 t).1 (hproving ▸ hdue))

/-- What an acquisition started from BYPASS leaves: the retry timer was stopped by the move there. -/
theorem startAcquisition_goBypass (u : State) :
    startAcquisition (goBypass u) =
      changeTimebase { (goBypass u).timebase with state := .acquiring, lock := some 0 } (goBypass u) := rfl

/-- Settles O40: the edge, the gap in HOLDOVER and outside it, the restore with and without the multiplier. -/
theorem crystalSupervised : Obligations.CrystalSupervised := by
  rintro ms s u hstage rfl
  have hrunning := running_of_stage hstage
  have hkept := running_elapse ms hstage
  refine ⟨congrArg Host.Outcome.next (crystalEdgeEvent_of_running hrunning),
    fun harmed hstate => congrArg Host.Outcome.next (crystalGapEvent_of_holdover hrunning harmed hstate),
    fun harmed hstate => congrArg Host.Outcome.next (crystalGapEvent_of_clocked hrunning harmed hstate),
    ?restore, fun t hproving hearly => congrArg Host.Outcome.next (crystalRestoreEvent_of_unproved hproving hearly)⟩
  case restore =>
    rintro t v hstate hproving hdue rfl
    have hrestore := crystalRestoreEvent_of_proved hkept hstate hproving hdue
    have hconfig : multiplierEnabled (elapse ms s) = s.active.config.globals.multiplierEnable := by
      simp [multiplierEnabled]
    rw [hconfig] at hrestore
    refine ⟨fun hoff => congrArg Host.Outcome.next ?_, fun hon => congrArg Host.Outcome.next ?_⟩
    · exact hrestore.trans (if_neg (by rw [hoff]; decide))
    · exact (hrestore.trans (if_pos hon)).trans (startAcquisition_goBypass _)

/-! ### The lock detector (R50, R52 to R54) -/

theorem lockReportEvent_of_acquiring {s : State} (hrunning : s.running = true) (hstate : s.timebase.state = .acquiring) :
    lockReportEvent s = changeTimebase { s.timebase with state := .locked, breakSeen := false, lock := none } s := by
  rw [lockReportEvent, if_pos hrunning, hstate]

theorem lockReportEvent_of_broken {s : State} (hrunning : s.running = true) (hstate : s.timebase.state = .locked)
    (hseen : s.timebase.breakSeen = true) : lockReportEvent s = changeBreakSeen false s := by
  rw [lockReportEvent, if_pos hrunning, hstate, hseen]
  rfl

theorem lockReportEvent_of_idle {s : State}
    (h : s.timebase.state = .holdover ∨ s.timebase.state = .bypass ∨
      s.timebase.state = .locked ∧ s.timebase.breakSeen = false) : lockReportEvent s = s := by
  unfold lockReportEvent
  obtain hstate | hstate | ⟨hstate, hseen⟩ := h
  · simp [hstate]
  · simp [hstate]
  · simp [hstate, hseen]

theorem lossOfLockEvent_of_relock {s : State} (hrunning : s.running = true) (hstate : s.timebase.state = .locked)
    (hseen : s.timebase.breakSeen = false) (hrelock : s.active.config.globals.relock = .relock) :
    lossOfLockEvent s = handFault .timebase .lockBreak .none
      (changeTimebase { s.timebase with state := .acquiring, lock := some 0 } s) := by
  simp [lossOfLockEvent, hrunning, hstate, hseen, hrelock]

theorem lossOfLockEvent_of_ride {s : State} (hrunning : s.running = true) (hstate : s.timebase.state = .locked)
    (hseen : s.timebase.breakSeen = false) (hride : s.active.config.globals.relock = .ride) :
    lossOfLockEvent s = handFault .timebase .lockBreak .none (changeBreakSeen true s) := by
  simp [lossOfLockEvent, hrunning, hstate, hseen, hride]

theorem lossOfLockEvent_of_idle {s : State} (h : s.timebase.state ≠ .locked ∨ s.timebase.breakSeen = true) :
    lossOfLockEvent s = s := by
  unfold lossOfLockEvent
  split
  · split
    · rfl
    · rfl
    · rfl
    · next hstate =>
      obtain hunlocked | hseen := h
      · exact absurd hstate hunlocked
      · rw [if_pos hseen]
  · rfl

/-- Settles O41: each report by the state it finds. -/
theorem lockReportsJudged : Obligations.LockReportsJudged := by
  intro s hstage
  have hrunning := running_of_stage hstage
  exact ⟨fun hstate => congrArg Host.Outcome.next (lockReportEvent_of_acquiring hrunning hstate),
    fun hstate hseen => congrArg Host.Outcome.next (lockReportEvent_of_broken hrunning hstate hseen),
    fun hidle => congrArg Host.Outcome.next (lockReportEvent_of_idle hidle),
    fun hstate hseen =>
      ⟨fun hrelock => congrArg Host.Outcome.next (lossOfLockEvent_of_relock hrunning hstate hseen hrelock),
        fun hride => congrArg Host.Outcome.next (lossOfLockEvent_of_ride hrunning hstate hseen hride)⟩,
    fun hidle => congrArg Host.Outcome.next (lossOfLockEvent_of_idle hidle)⟩

/-! ### The timers of an acquisition (R49, R51) -/

theorem lockTimeoutEvent_of_due {u : State} {t : Nat} (hrunning : u.running = true)
    (hstate : u.timebase.state = .acquiring) (hlock : u.timebase.lock = some t) (hdue : 10 ≤ t) :
    lockTimeoutEvent u = handFault .timebase .lockTimeout .none
      (changeTimebase { u.timebase with state := .bypass, lock := none, retry := some 0 } u) :=
  if_pos ⟨hrunning, hstate, by rw [hlock]; exact (timerAt_some 10 t).2 hdue⟩

theorem lockTimeoutEvent_of_early {u : State} {t : Nat} (hlock : u.timebase.lock = some t) (hearly : t < 10) :
    lockTimeoutEvent u = u :=
  if_neg fun ⟨_, _, hdue⟩ => Nat.not_le.2 hearly ((timerAt_some 10 t).1 (hlock ▸ hdue))

theorem retryExpiryEvent_of_due {u : State} {t : Nat} (hrunning : u.running = true)
    (hstate : u.timebase.state = .bypass) (hretry : u.timebase.retry = some t) (hdue : 1000 ≤ t) :
    retryExpiryEvent u = startAcquisition u :=
  if_pos ⟨hrunning, hstate, by rw [hretry]; exact (timerAt_some 1000 t).2 hdue⟩

theorem retryExpiryEvent_of_early {u : State} {t : Nat} (hretry : u.timebase.retry = some t) (hearly : t < 1000) :
    retryExpiryEvent u = u :=
  if_neg fun ⟨_, _, hdue⟩ => Nat.not_le.2 hearly ((timerAt_some 1000 t).1 (hretry ▸ hdue))

/-- Settles O42: each timer at its limit and before it, and what a change of state sets. -/
theorem acquisitionTimesOut : Obligations.AcquisitionTimesOut := by
  refine ⟨?timers, fun t s => rfl⟩
  rintro ms s u t hstage rfl
  have hkept := running_elapse ms hstage
  exact ⟨fun hstate hlock => ⟨fun hdue => congrArg Host.Outcome.next (lockTimeoutEvent_of_due hkept hstate hlock hdue),
      fun hearly => congrArg Host.Outcome.next (lockTimeoutEvent_of_early hlock hearly)⟩,
    fun hstate hretry => ⟨fun hdue => congrArg Host.Outcome.next (retryExpiryEvent_of_due hkept hstate hretry hdue),
      fun hearly => congrArg Host.Outcome.next (retryExpiryEvent_of_early hretry hearly)⟩⟩

end Sys2Proof.Proofs.TimebaseUnit

/-! PROOF. The capture groups: which slots a scan list holds, where its references stand, and what taking up a
configuration leaves of a group (R23, R24, R40, R41). -/
namespace Sys2Proof.Proofs.ScanLists
open Sys2Proof Sys2Proof.Machine Sys2Proof.Proofs.Readouts

/-! ### Used slots (R3, R24) -/

theorem slotOf_lineOf (g : GroupIx) (slot : SlotIx) : slotOf (lineOf g slot) = slot := by
  apply Fin.ext
  simp only [slotOf, lineOf]
  omega

theorem lineUsed_lineOf {c : Configuration} {g : GroupIx} {slot : SlotIx} :
    lineUsed c (lineOf g slot) = true ↔ UsedSlot c g slot := by
  have hnamed : ((List.finRange 640).find? fun i =>
        cellExists c i && namesLine (c.cells.get i) (lineOf g slot)).isSome = true ↔
      ∃ i, cellExists c i = true ∧ ∃ item ∈ (c.cells.get i).sources, item.line = (lineOf g slot).1 := by
    simp [List.find?_isSome, namesLine_iff]
  unfold lineUsed servedCell UsedSlot
  rw [slotOf_lineOf]
  split
  · next hzero => simp [hzero]
  · next hskin =>
    split
    · next hfitted => simpa [hskin, hfitted] using hnamed
    · next hunfitted => simp [hunfitted]

theorem mem_usedSlots {c : Configuration} {g : GroupIx} {slot : SlotIx} : slot ∈ usedSlots c g ↔ UsedSlot c g slot := by
  simp [usedSlots, lineUsed_lineOf]

theorem usedSlots_ascending (c : Configuration) (g : GroupIx) : (usedSlots c g).Pairwise fun a b => a < b :=
  (List.pairwise_lt_finRange 16).filter _

/-- Two ascending lists of the same members are one list. -/
theorem eq_of_ascending {l m : List SlotIx} (hl : l.Pairwise fun a b => a < b) (hm : m.Pairwise fun a b => a < b)
    (h : ∀ s, s ∈ l ↔ s ∈ m) : l = m := by
  have hperm : l.Perm m := (List.perm_ext_iff_of_nodup (hl.imp Fin.ne_of_lt) (hm.imp Fin.ne_of_lt)).2 h
  exact hperm.eq_of_pairwise (fun a b _ _ hab hba => absurd hab (Fin.lt_asymm hba)) hl hm

/-- An ascending list of the used slots is the list the model builds. -/
theorem usedSlots_eq {c : Configuration} {g : GroupIx} {slots : List SlotIx}
    (hascending : slots.Pairwise fun a b => a < b) (hmem : ∀ s, s ∈ slots ↔ UsedSlot c g s) : usedSlots c g = slots :=
  eq_of_ascending (usedSlots_ascending c g) hascending fun s => mem_usedSlots.trans (hmem s).symm

theorem stillWanted_iff {c : Configuration} {g : GroupIx} {slot : SlotIx} :
    stillWanted c g slot = true ↔ Wanted c g slot := by
  unfold stillWanted Wanted
  split
  · next hzero =>
    have hsome : (!(usedSlots c g).isEmpty) = true ↔ ∃ k, UsedSlot c g k := by
      simp [← mem_usedSlots, List.eq_nil_iff_forall_not_mem]
    subst hzero
    have hnot : ¬ UsedSlot c g 0 := fun h => h.1 rfl
    simp only [Bool.and_eq_true, hsome, referenceFitted, or_iff_right hnot, true_and]
  · next hskin => simp [lineUsed_lineOf, hskin]

/-! ### The references among the slots (R24) -/

theorem placeReferences_zero (slots : List SlotIx) : placeReferences 0 0 slots = slots := by
  induction slots with
  | nil => rfl
  | cons x rest ih =>
    cases rest with
    | nil => rfl
    | cons y rest => rw [placeReferences, if_neg (by omega)]; exact congrArg (x :: ·) ih

/-- With `k` slots to the next reference, slot `j` has `(j + n - k) / n` references before it. -/
theorem getElem?_placeReferences {n : Nat} (hn : 1 ≤ n) (slots : List SlotIx) :
    ∀ k j, 1 ≤ k → k ≤ n → j < slots.length →
      (placeReferences n k slots)[j + (j + n - k) / n]? = slots[j]? := by
  induction slots with
  | nil => exact fun k j _ _ hj => absurd hj (Nat.not_lt_zero j)
  | cons x rest ih =>
    intro k j hk hkn hj
    have hnone : (n - k) / n = 0 := Nat.div_eq_of_lt (by omega)
    cases j with
    | zero =>
      rw [Nat.zero_add, Nat.zero_add, hnone]
      cases rest with
      | nil => rfl
      | cons y rest => rw [placeReferences]; split <;> rfl
    | succ j =>
      cases rest with
      | nil => exact absurd hj (by simp)
      | cons y rest =>
        have hj' : j < (y :: rest).length := Nat.lt_of_succ_lt_succ hj
        rw [placeReferences]
        split
        · next hlast =>
          have hquot : (j + 1 + n - k) / n = (j + n - n) / n + 1 := by
            rw [hlast, Nat.add_sub_cancel, show j + 1 + n - 1 = j + n by omega, Nat.add_div_right _ (by omega)]
          rw [hquot, show j + 1 + ((j + n - n) / n + 1) = j + (j + n - n) / n + 1 + 1 by omega]
          exact ih n j hn (Nat.le_refl n) hj'
        · next hmore =>
          rw [show j + 1 + n - k = j + n - (k - 1) by omega,
            show j + 1 + (j + n - (k - 1)) / n = j + (j + n - (k - 1)) / n + 1 by omega]
          exact ih (k - 1) j (by omega) (by omega) hj'

theorem length_placeReferences {n : Nat} (hn : 1 ≤ n) (slots : List SlotIx) :
    ∀ k, 1 ≤ k → k ≤ n → slots ≠ [] →
      (placeReferences n k slots).length = slots.length + (slots.length - 1 + n - k) / n := by
  induction slots with
  | nil => exact fun k _ _ hne => absurd rfl hne
  | cons x rest ih =>
    intro k hk hkn _
    cases rest with
    | nil =>
      have hnone : (n - k) / n = 0 := Nat.div_eq_of_lt (by omega)
      simpa [placeReferences] using hnone
    | cons y rest =>
      rw [placeReferences]
      split
      · next hlast =>
        have hrest := ih n hn (Nat.le_refl n) (List.cons_ne_nil y rest)
        have hquot : (rest.length + 1 + n - k) / n = rest.length / n + 1 := by
          rw [hlast, show rest.length + 1 + n - 1 = rest.length + n by omega, Nat.add_div_right _ (by omega)]
        simp only [List.length_cons, Nat.add_sub_cancel] at hrest ⊢
        omega
      · next hmore =>
        have hrest := ih (k - 1) (by omega) (by omega) (List.cons_ne_nil y rest)
        simp only [List.length_cons, Nat.add_sub_cancel] at hrest ⊢
        rw [show rest.length + 1 + n - k = rest.length + n - (k - 1) by omega]
        omega

/-- The references stand after slot `k - 1` and every `n` slots on, as long as a slot follows. -/
theorem reference_placeReferences {n : Nat} (hn : 1 ≤ n) (slots : List SlotIx) :
    ∀ k j, 1 ≤ k → k ≤ n → k + j * n < slots.length → (placeReferences n k slots)[k + j * n + j]? = some 0 := by
  induction slots with
  | nil => exact fun k j _ _ hj => absurd hj (Nat.not_lt_zero _)
  | cons x rest ih =>
    intro k j hk hkn hj
    cases rest with
    | nil => simp only [List.length_cons, List.length_nil] at hj; omega
    | cons y rest =>
      simp only [List.length_cons] at hj
      rw [placeReferences]
      split
      · next hlast =>
        subst hlast
        cases j with
        | zero => simp
        | succ j =>
          have hstep : (j + 1) * n = j * n + n := Nat.succ_mul j n
          rw [show 1 + (j + 1) * n + (j + 1) = n + j * n + j + 1 + 1 by omega]
          exact ih n j hn (Nat.le_refl n) (by simp only [List.length_cons]; omega)
      · next hmore =>
        rw [show k + j * n + j = k - 1 + j * n + j + 1 by omega]
        exact ih (k - 1) j (by omega) (by omega) (by simp only [List.length_cons]; omega)

/-! ### The scan list and its take-up (R23, R24, R41) -/

theorem scanListOf_of_unused {c : Configuration} {g : GroupIx} (h : usedSlots c g = []) : scanListOf c g = [] := by
  simp [scanListOf, h]

theorem scanListOf_of_unfitted {c : Configuration} {g : GroupIx} (h : (c.lines.get (lineOf g 0)).fitted = false) :
    scanListOf c g = usedSlots c g := by
  cases hslots : usedSlots c g with
  | nil => simp [scanListOf, hslots]
  | cons x rest => simp [scanListOf, hslots, referenceFitted, h]

theorem scanListOf_of_fitted {c : Configuration} {g : GroupIx} (hused : usedSlots c g ≠ [])
    (h : (c.lines.get (lineOf g 0)).fitted = true) :
    scanListOf c g = 0 :: placeReferences (c.globals.groups.get g).interleave (c.globals.groups.get g).interleave
      (usedSlots c g) := by
  simp [scanListOf, hused, referenceFitted, h, settingsOf]

theorem scanListOf_ne_nil {c : Configuration} {g : GroupIx} (hused : usedSlots c g ≠ []) : scanListOf c g ≠ [] := by
  cases hfitted : (c.lines.get (lineOf g 0)).fitted with
  | false => rwa [scanListOf_of_unfitted hfitted]
  | true => rw [scanListOf_of_fitted hused hfitted]; exact List.cons_ne_nil _ _

theorem takeUp_of_nil {c : Configuration} {g : GroupIx} (x : CaptureGroup) (h : scanListOf c g = []) :
    takeUp c g x = CaptureGroup.idle := by
  rw [takeUp, h]

/-- The reference survives where the group stays unparked and its reference fitted. -/
theorem takeUp_of_cons {c : Configuration} {g : GroupIx} {first : SlotIx} {rest : List SlotIx} (x : CaptureGroup)
    (h : scanListOf c g = first :: rest) :
    takeUp c g x =
      { parked := false, scanList := first :: rest, cursor := 0, measurement := some (freshMeasurement c g first 0)
        applied := false
        refStatus := if x.parked = false ∧ (c.lines.get (lineOf g 0)).fitted = true then x.refStatus else .none
        lastRef := if x.parked = false ∧ (c.lines.get (lineOf g 0)).fitted = true then x.lastRef else none } := by
  rw [takeUp, h]
  simp [referenceFitted]

/-- Settles O35: the used slots determine the list, `placeReferences` by position gives it its references. -/
theorem scanListBuilt : Obligations.ScanListBuilt := by
  rintro c g x slots n rfl hascending hmem
  obtain rfl : usedSlots c g = slots := usedSlots_eq hascending hmem
  refine ⟨fun hnone => takeUp_of_nil x (scanListOf_of_unused hnone), fun hused => ?_⟩
  obtain ⟨first, rest, hlist⟩ := List.exists_cons_of_ne_nil (scanListOf_ne_nil hused)
  refine ⟨first, rest, takeUp_of_cons x hlist, fun hunfitted => ?_, fun hfitted => ?_⟩
  · rw [← hlist, scanListOf_of_unfitted hunfitted]
  · have hplaced := hlist.symm.trans (scanListOf_of_fitted hused hfitted)
    obtain ⟨rfl, hrest⟩ := List.cons.inj hplaced
    refine ⟨rfl, fun hzero => ?_, fun hn => ⟨?_, fun k hk => ?_, fun j hj => ?_⟩⟩
    · rw [hrest, hzero, placeReferences_zero]
    · rw [List.length_cons, hrest, length_placeReferences hn _ _ hn (Nat.le_refl _) hused, Nat.add_sub_cancel]
      omega
    · have hslot := getElem?_placeReferences hn _ _ k hn (Nat.le_refl _) hk
      rw [Nat.add_sub_cancel] at hslot
      rw [show k + 1 + k / (c.globals.groups.get g).interleave = k + k / (c.globals.groups.get g).interleave + 1 by omega,
        hrest]
      exact hslot
    · cases j with
      | zero => simp
      | succ j =>
        rw [hrest]
        generalize (c.globals.groups.get g).interleave = n at hn hj ⊢
        have hstep : (j + 1) * n = n + j * n := by rw [Nat.succ_mul, Nat.add_comm]
        rw [show (j + 1) * (n + 1) = n + j * n + j + 1 by rw [Nat.mul_succ]; omega]
        exact reference_placeReferences hn _ n j hn (Nat.le_refl _) (by omega)

end Sys2Proof.Proofs.ScanLists

/-! PROOF. A measurement of a capture group: its stages, the reading it gives, and what POST does with it (R21, R25 to
R41). -/
namespace Sys2Proof.Proofs.Measurements
open Sys2Proof Sys2Proof.Machine Sys2Proof.Proofs.Expiries Sys2Proof.Proofs.TimebaseUnit Sys2Proof.Proofs.ScanLists

theorem inFlight_of_running {g : GroupIx} {m : Measurement} {s : State} (hrunning : s.running = true)
    (hm : (s.groups.get g).measurement = some m) : inFlight g s = some m := (if_pos hrunning).trans hm

/-! ### The stages (R26 to R28) -/

theorem settleEndEvent_of_due {g : GroupIx} {m : Measurement} {u : State} (hm : inFlight g u = some m)
    (hstage : m.stage = .settle) (hdue : 1 ≤ m.timer) : settleEndEvent g u = toStage g m .arm u := by
  simp only [settleEndEvent, hm]
  exact if_pos ⟨hstage, hdue⟩

theorem armEdgeEvent_of_timely {g : GroupIx} {m : Measurement} {s : State} (hm : inFlight g s = some m)
    (hstage : m.stage = .arm) (htimely : m.timer ≤ edgeLimit) :
    armEdgeEvent g s = toStage g m (.count s.timebase.epoch (countingClock s.timebase) 0 0) s := by
  simp only [armEdgeEvent, hm]
  exact if_pos ⟨hstage, htimely⟩

theorem cycleCloseEvent_of_timely {g : GroupIx} {m : Measurement} {s : State} {epoch : Half} {clock : CountingClock}
    {closed total n : Nat} (hm : inFlight g s = some m) (hstage : m.stage = .count epoch clock closed total)
    (hmore : closed + 1 < m.window) (htimely : m.timer ≤ edgeLimit) (hlow : 2 ≤ n)
    (hhigh : n ≤ periodLimit epoch clock s.timebase) :
    cycleCloseEvent g n s = toStage g m (.count epoch clock (closed + 1) (total + n)) s := by
  simp only [cycleCloseEvent, hm, hstage]
  exact if_pos ⟨hmore, htimely, hlow, hhigh⟩

theorem countEndEvent_of_timely {g : GroupIx} {m : Measurement} {s : State} {epoch : Half} {clock : CountingClock}
    {closed total n : Nat} (hm : inFlight g s = some m) (hstage : m.stage = .count epoch clock closed total)
    (hlast : closed + 1 = m.window) (htimely : m.timer ≤ edgeLimit) (hlow : 2 ≤ n)
    (hhigh : n ≤ periodLimit epoch clock s.timebase) :
    countEndEvent g n s = toStage g m (.width epoch clock (total + n) none) s := by
  simp only [countEndEvent, hm, hstage]
  exact if_pos ⟨hlast, htimely, hlow, hhigh⟩

theorem fallingEdgeEvent_of_timely {g : GroupIx} {m : Measurement} {s : State} {epoch : Half} {clock : CountingClock}
    {total n : Nat} (hm : inFlight g s = some m) (hstage : m.stage = .width epoch clock total none)
    (htimely : m.timer ≤ edgeLimit) (hlow : 1 ≤ n) (hhigh : n ≤ periodLimit epoch clock s.timebase) :
    fallingEdgeEvent g n s = s.setGroup g { s.groups.get g with
      measurement := some { m with stage := .width epoch clock total (some n) } } := by
  simp only [fallingEdgeEvent, hm, hstage]
  exact if_pos ⟨htimely, hlow, hhigh⟩

/-- Settles O36: each stage ends as its event says. -/
theorem measurementStagesAdvance : Obligations.MeasurementStagesAdvance := by
  rintro g ms n s u x y m k hstage rfl rfl rfl hm hk
  have hdone := inFlight_of_running (running_elapse ms hstage) hm
  have hnow := inFlight_of_running (running_of_stage hstage) hk
  exact ⟨fun hsettle hdue => congrArg Host.Outcome.next (settleEndEvent_of_due hdone hsettle hdue),
    fun harm htimely => congrArg Host.Outcome.next (armEdgeEvent_of_timely hnow harm htimely),
    fun epoch clock closed total hcount htimely hlow hhigh =>
      ⟨fun hmore => congrArg Host.Outcome.next (cycleCloseEvent_of_timely hnow hcount hmore htimely hlow hhigh),
        fun hlast => congrArg Host.Outcome.next (countEndEvent_of_timely hnow hcount hlast htimely hlow hhigh)⟩,
    fun epoch clock total hwidth htimely hlow hhigh =>
      congrArg Host.Outcome.next (fallingEdgeEvent_of_timely hnow hwidth htimely hlow hhigh)⟩

/-! ### The stages that end in POST (R26 to R28) -/

theorem armTimeoutEvent_of_due {g : GroupIx} {m : Measurement} {u : State} (hm : inFlight g u = some m)
    (hstage : m.stage = .arm) (hdue : edgeLimit ≤ m.timer) :
    armTimeoutEvent g u = post g m u.timebase.epoch .noSignal u := by
  simp only [armTimeoutEvent, hm]
  exact if_pos ⟨hstage, hdue⟩

theorem countTimeoutEvent_of_due {g : GroupIx} {m : Measurement} {u : State} {epoch : Half} {clock : CountingClock}
    {closed total : Nat} (hm : inFlight g u = some m) (hstage : m.stage = .count epoch clock closed total)
    (hdue : edgeLimit ≤ m.timer) : countTimeoutEvent g u = post g m epoch .noSignal u := by
  simp only [countTimeoutEvent, hm, hstage]
  exact if_pos hdue

theorem widthTimeoutEvent_of_due {g : GroupIx} {m : Measurement} {u : State} {epoch : Half} {clock : CountingClock}
    {total : Nat} {high : Option Nat} (hm : inFlight g u = some m) (hstage : m.stage = .width epoch clock total high)
    (hdue : edgeLimit ≤ m.timer) : widthTimeoutEvent g u = post g m epoch .noSignal u := by
  simp only [widthTimeoutEvent, hm, hstage]
  exact if_pos hdue

theorem widthEndEvent_of_timely {g : GroupIx} {m : Measurement} {s : State} {epoch : Half} {clock : CountingClock}
    {total high : Nat} (hm : inFlight g s = some m) (hstage : m.stage = .width epoch clock total (some high))
    (htimely : m.timer ≤ edgeLimit) : widthEndEvent g s = post g m epoch (.counted clock total high) s := by
  simp only [widthEndEvent, hm, hstage]
  exact if_pos htimely

/-! ### Storing a result (R35 to R39) -/

/-- The record that a measurement gives: of the reference in slot 0, of a skin line in any other. -/
def resultReading (g : GroupIx) (m : Measurement) (x : Gathered) (s : State) : Reading :=
  if m.slot = 0 then referenceReading m.window s.timebase x
  else skinReading (s.active.config.lines.get (lineOf g m.slot)) s.active.config.globals.referenceAge m.window
    (s.groups.get g).lastRef s.timebase x

theorem storeResult_of_skin {g : GroupIx} {m : Measurement} (x : Gathered) (s : State) (hskin : m.slot ≠ 0) :
    storeResult g m x s = storeSkin g (lineOf g m.slot) (resultReading g m x s) s := by
  rw [storeResult, resultReading, if_neg hskin, if_neg hskin]

theorem storeResult_of_reference {g : GroupIx} {m : Measurement} (x : Gathered) (s : State) (href : m.slot = 0) :
    storeResult g m x s = storeReference g (resultReading g m x s) s := by
  rw [storeResult, resultReading, if_pos href, if_pos href]

theorem resultReading_noSignal (g : GroupIx) (m : Measurement) (s : State) :
    resultReading g m .noSignal s = badReading .noSignal none s.timebase := by
  unfold resultReading
  split <;> rfl

theorem storeSkin_of_fall {g : GroupIx} {l : LineIx} {r : Reading} {s : State} {k : FaultKind}
    (h : fallFault (s.readings.get l).status r.status = some k) :
    storeSkin g l r s = handFault (.group g) k (.line l) { s with readings := put s.readings l r } := by
  simp only [storeSkin, h]

theorem storeSkin_of_none {g : GroupIx} {l : LineIx} {r : Reading} {s : State}
    (h : fallFault (s.readings.get l).status r.status = none) :
    storeSkin g l r s = { s with readings := put s.readings l r } := by
  simp only [storeSkin, h]

theorem fallFault_of_sound {before : ReadingStatus} (after : ReadingStatus) (h : before = .none ∨ before = .ok) :
    fallFault before after = fallFault .ok after := by
  obtain rfl | rfl := h <;> rfl

theorem fallFault_of_fallen {before : ReadingStatus} (after : ReadingStatus) (hnone : before ≠ .none)
    (hok : before ≠ .ok) : fallFault before after = none := by
  cases before
  case none => exact absurd rfl hnone
  case ok => exact absurd rfl hok
  all_goals rfl

theorem referenceOf_eq (r : Reading) :
    referenceOf r = if r.status = .ok then
      r.frequency.map fun f => { frequency := f, epoch := r.epoch, stamp := r.stamp } else none := by
  obtain ⟨status, temperature, frequency, quality, corrected, epoch, stamp⟩ := r
  cases status <;> cases frequency <;> rfl

theorem judgedReference_eq_fault {r : Reading} : judgedReference r = .fault ↔ r.status ≠ .ok := by
  unfold judgedReference
  split
  · next hok => simp [hok]
  · next hbad => simp [hbad]

/-- A stored reference result in the words of R35 and R36. -/
theorem storeReference_eq {g : GroupIx} {r : Reading} {s v : State}
    (hv : v = { s with
      readings := put s.readings (lineOf g 0) r
      groups := (put s.groups g { s.groups.get g with
        refStatus := if r.status = .ok then .ok else .fault
        lastRef := if r.status = .ok then
            r.frequency.map fun f => { frequency := f, epoch := r.epoch, stamp := r.stamp }
          else none }) }) :
    storeReference g r s =
      if r.status ≠ .ok ∧ (s.groups.get g).refStatus ≠ .fault then
        handFault (.group g) .refBad (.line (lineOf g 0)) v else v := by
  simp only [storeReference, judgedReference_eq_fault, referenceOf_eq]
  subst hv
  rfl

/-! ### POST (R25, R29, R40, R41) -/

theorem postStores_of_equal {g : GroupIx} {m : Measurement} {x : Gathered} {epoch : Half} {s : State}
    (hepoch : s.timebase.epoch = epoch) : PostStores g m.slot (resultReading g m x s) s (post g m epoch x s) := by
  refine ⟨storeResult g m x s, ?skin, ?reference, ?plain, ?applied⟩
  case skin =>
    rintro v hskin rfl
    rw [storeResult_of_skin x s hskin]
    refine ⟨fun hsound => ?_, fun hnone hok => storeSkin_of_none (fallFault_of_fallen _ hnone hok)⟩
    have hfall := fallFault_of_sound (resultReading g m x s).status hsound
    exact ⟨fun h => storeSkin_of_none (hfall.trans (by rw [h]; rfl)),
      fun h => storeSkin_of_fall (hfall.trans (by rw [h]; rfl)),
      fun h => storeSkin_of_fall (hfall.trans (by rw [h]; rfl)),
      fun h => storeSkin_of_fall (hfall.trans (by rw [h]; rfl)),
      fun h => storeSkin_of_fall (hfall.trans (by rw [h]; rfl))⟩
  case reference =>
    rintro v y href rfl hv
    rw [storeResult_of_reference x s href]
    exact storeReference_eq hv
  case plain =>
    intro happlied
    rw [post, if_neg (by simp [happlied]), postPlain, if_pos hepoch]
  case applied =>
    intro happlied
    rw [post, if_pos happlied, postApplied]
    exact ⟨fun hwanted => by rw [if_pos ⟨hepoch, stillWanted_iff.2 hwanted⟩],
      fun hunwanted => by rw [if_neg fun h => hunwanted (stillWanted_iff.1 h.2)]⟩

/-- Settles O37: each timeout ends in POST under the epoch read at the moment. -/
theorem timeoutsStoreNoSignal : Obligations.TimeoutsStoreNoSignal := by
  rintro g ms s u x m c hstage rfl rfl hm hdue hcase
  have hnow := inFlight_of_running (running_elapse ms hstage) hm
  have hstored := postStores_of_equal (g := g) (m := m) (x := .noSignal) (s := elapse ms s) rfl
  rw [resultReading_noSignal] at hstored
  obtain ⟨harm, rfl⟩ | ⟨⟨clock, closed, total, hcount⟩, rfl⟩ | ⟨⟨clock, total, high, hwidth⟩, rfl⟩ := hcase
  · exact ⟨_, congrArg Host.Outcome.next (armTimeoutEvent_of_due hnow harm hdue), hstored⟩
  · exact ⟨_, congrArg Host.Outcome.next (countTimeoutEvent_of_due hnow hcount hdue), hstored⟩
  · exact ⟨_, congrArg Host.Outcome.next (widthTimeoutEvent_of_due hnow hwidth hdue), hstored⟩

/-! ### Classification and conversion (R21, R28 to R35) -/

theorem dutyClass_of_headFault {d : Int} (h : 200 ≤ d ∧ d ≤ 300) : dutyClass d = .headFault := by
  rw [dutyClass, if_neg (by omega), if_pos h]

theorem dutyClass_of_bad {d : Int} (hhead : ¬(200 ≤ d ∧ d ≤ 300)) (h : d < 400 ∨ 600 < d) : dutyClass d = .dutyBad := by
  rw [dutyClass, if_neg (by omega), if_neg hhead]

theorem dutyClass_of_healthy {d : Int} (h : ¬(d < 400 ∨ 600 < d)) : dutyClass d = .healthy := if_pos (by omega)

theorem usableReference_eq_some {limit : Nat} {now : Word} {epoch : Half} {last : Option LastReference}
    {ref : LastReference} (h : usableReference limit now epoch last = some ref) :
    last = some ref ∧ ref.epoch = epoch ∧ age now ref.stamp ≤ limit * 1000 := by
  cases last with
  | none => cases h
  | some candidate =>
    simp only [usableReference] at h
    split at h
    · next husable => cases h; exact ⟨rfl, husable⟩
    · cases h

theorem usableReference_eq_none {limit : Nat} {now : Word} {epoch : Half} {last : Option LastReference}
    (h : usableReference limit now epoch last = none) (ref : LastReference) (hlast : last = some ref) :
    ref.epoch ≠ epoch ∨ limit * 1000 < age now ref.stamp := by
  subst hlast
  simp only [usableReference] at h
  split at h
  · cases h
  · next hunusable => exact (Classical.not_and_iff_not_or_not.1 hunusable).imp_right Nat.not_le.1

theorem readingQuality_eq (corrected : Bool) (t : Timebase) :
    readingQuality corrected t = if corrected then .good
      else if t.state = .holdover ∨ t.state = .locked ∧ t.breakSeen = true then .degraded else .good := by
  unfold readingQuality
  split
  · rfl
  · split
    · next hlocked => cases hseen : t.breakSeen <;> simp [hlocked]
    · next hbypass => simp [hbypass]
    · next hacquiring => simp [hacquiring]
    · next hholdover => simp [hholdover]

theorem convertedReading_eq (line : LineRecord) (f : Int) (corrected : Bool) (t : Timebase) :
    convertedReading line f corrected t =
      if convert f line.zeroTrim line.span < -500 ∨ 13500 < convert f line.zeroTrim line.span then
        badReading .range (some f) t
      else { status := .ok, temperature := some (convert f line.zeroTrim line.span), frequency := some f
             quality := some (readingQuality corrected t), corrected := corrected, epoch := t.epoch
             stamp := t.partTime } := by
  by_cases hout : convert f line.zeroTrim line.span < -500 ∨ 13500 < convert f line.zeroTrim line.span
  · have hbad : tempOk (convert f line.zeroTrim line.span) = false := decide_eq_false (by omega)
    simp only [convertedReading, hbad, if_pos hout]
    rfl
  · have hok : tempOk (convert f line.zeroTrim line.span) = true := decide_eq_true (by omega)
    simp only [convertedReading, hok, if_neg hout]
    rfl

theorem measuredFrequency_eq (window : Nat) (clock : CountingClock) (periods : Nat) (hz : Int)
    (hhz : hz = clockHz clock) : measuredFrequency window clock periods = roundDiv (100 * window * hz) periods := by
  rw [hhz]
  rfl

/-- A counted skin-line result in the words of R31 to R34. -/
theorem skinReading_counted {line : LineRecord} {limit window periods high : Nat} {last : Option LastReference}
    {t : Timebase} {clock : CountingClock} {f d converted : Int} {corrected : Bool}
    (hf : measuredFrequency window clock periods = f) (hd : measuredDuty window periods high = d)
    (hsome : ∀ ref, usableReference limit t.partTime t.epoch last = some ref →
      converted = correctedFrequency f ref.frequency ∧ corrected = true)
    (hnone : usableReference limit t.partTime t.epoch last = none → converted = f ∧ corrected = false) :
    skinReading line limit window last t (.counted clock periods high) =
      if f < 150000 ∨ 850000 < f then badReading .range (some f) t
      else if 200 ≤ d ∧ d ≤ 300 then badReading .headFault (some f) t
      else if d < 400 ∨ 600 < d then badReading .dutyBad (some f) t
      else convertedReading line converted corrected t := by
  simp only [skinReading, hf, hd]
  split
  · rfl
  · by_cases hhead : 200 ≤ d ∧ d ≤ 300
    · rw [dutyClass_of_headFault hhead, if_pos hhead]
    · by_cases hbad : d < 400 ∨ 600 < d
      · rw [dutyClass_of_bad hhead hbad, if_neg hhead, if_pos hbad]
      · rw [dutyClass_of_healthy hbad, if_neg hhead, if_neg hbad]
        cases husable : usableReference limit t.partTime t.epoch last with
        | none => obtain ⟨rfl, rfl⟩ := hnone husable; rfl
        | some ref => obtain ⟨rfl, rfl⟩ := hsome ref husable; rfl

/-- A counted reference result in the words of R35. -/
theorem referenceReading_counted {window periods high : Nat} {t : Timebase} {clock : CountingClock} {f d : Int}
    (hf : measuredFrequency window clock periods = f) (hd : measuredDuty window periods high = d) :
    referenceReading window t (.counted clock periods high) =
      if f < 485000 ∨ 515000 < f then badReading .range (some f) t
      else if 200 ≤ d ∧ d ≤ 300 then badReading .headFault (some f) t
      else if d < 400 ∨ 600 < d then badReading .dutyBad (some f) t
      else { status := .ok, temperature := none, frequency := some f, quality := some (readingQuality false t)
             corrected := false, epoch := t.epoch, stamp := t.partTime } := by
  simp only [referenceReading, hf, hd]
  split
  · rfl
  · by_cases hhead : 200 ≤ d ∧ d ≤ 300
    · rw [dutyClass_of_headFault hhead, if_pos hhead]
    · by_cases hbad : d < 400 ∨ 600 < d
      · rw [dutyClass_of_bad hhead hbad, if_neg hhead, if_pos hbad]
      · rw [dutyClass_of_healthy hbad, if_neg hhead, if_neg hbad]

/-- Settles O38: the end of WIDTH is POST, and the record it stores is the classified one. -/
theorem widthEndStoresReading : Obligations.WidthEndStoresReading := by
  rintro g s x m clock periods high f d plain bad hstage rfl hm hwidth htimely hf hd hplain hbad
  have hnow := inFlight_of_running (running_of_stage hstage) hm
  have hpost : exec (.widthEnd g) s = .next (post g m s.timebase.epoch (.counted clock periods high) s) :=
    congrArg Host.Outcome.next (widthEndEvent_of_timely hnow hwidth htimely)
  have hstored := postStores_of_equal (g := g) (m := m) (x := .counted clock periods high) (s := s) rfl
  have hfreq : measuredFrequency m.window clock periods = f :=
    (measuredFrequency_eq m.window clock periods _ (by cases clock <;> rfl)).trans hf.symm
  have hrecord : ∀ status frequency, bad status frequency = badReading status frequency s.timebase := hbad
  refine ⟨?skin, ?reference⟩
  case skin =>
    rintro hskin line converted temp corrected r rfl hsome hnone rfl rfl
    refine ⟨_, hpost, ?_⟩
    have hquality : readingQuality corrected s.timebase = if corrected then .good else plain := by
      rw [readingQuality_eq, hplain]
    rw [resultReading, if_neg hskin, skinReading_counted hfreq hd.symm
      (fun ref husable => (usableReference_eq_some husable).elim fun hlast husable =>
        hsome ref hlast husable.1 husable.2)
      (fun hunusable => hnone (usableReference_eq_none hunusable)), convertedReading_eq, hquality] at hstored
    simp only [hrecord]
    exact hstored
  case reference =>
    rintro href r rfl
    refine ⟨_, hpost, ?_⟩
    have hquality : readingQuality false s.timebase = plain := by rw [readingQuality_eq, hplain]; rfl
    rw [resultReading, if_pos href, referenceReading_counted hfreq hd.symm, hquality] at hstored
    simp only [hrecord]
    exact hstored

/-! ### An abort, and the next entry (R25, R29, R40) -/

theorem post_of_first_abort {g : GroupIx} {m : Measurement} {x : Gathered} {epoch : Half} {u : State}
    (hepoch : epoch ≠ u.timebase.epoch) (hplain : (u.groups.get g).applied = false) (hfirst : m.aborts = 0) :
    post g m epoch x u = updateGroup (fun c g' => retryEntry c g' m.slot) g u := by
  rw [post, if_neg (by simp [hplain]), postPlain, if_neg hepoch.symm, if_pos hfirst]

theorem post_of_second_abort {g : GroupIx} {m : Measurement} {x : Gathered} {epoch : Half} {u : State}
    (hepoch : epoch ≠ u.timebase.epoch) (hplain : (u.groups.get g).applied = false) (hagain : m.aborts ≠ 0) :
    post g m epoch x u = updateGroup moveOn g (handFault (.group g) .abortRepeat (.line (lineOf g m.slot)) u) := by
  rw [post, if_neg (by simp [hplain]), postPlain, if_neg hepoch.symm, if_neg hagain]

theorem post_of_applied_abort {g : GroupIx} {m : Measurement} {x : Gathered} {epoch : Half} {u : State}
    (hepoch : epoch ≠ u.timebase.epoch) (happlied : (u.groups.get g).applied = true) :
    post g m epoch x u = updateGroup takeUp g u := by
  rw [post, if_pos happlied, postApplied, if_neg fun h => hepoch h.1.symm]

theorem moveOn_of_next {x : CaptureGroup} {slot : SlotIx} (c : Configuration) (g : GroupIx)
    (h : x.scanList[nextCursor x]? = some slot) :
    moveOn c g x = { x with cursor := nextCursor x, measurement := some (freshMeasurement c g slot 0) } := by
  rw [moveOn, h]
  rfl

/-- Settles O39: each of the three ends is a POST under another epoch. -/
theorem epochChangeAborts : Obligations.EpochChangeAborts := by
  refine ⟨?abort, ?next⟩
  case abort =>
    rintro g ms s u x m epoch c hstage rfl hm hepoch hcase
    have hends : ∃ gathered, exec c s = .next (post g m epoch gathered u) := by
      obtain ⟨rfl, htimely, ⟨clock, periods, high, hwidth⟩, rfl⟩ | ⟨rfl, hdue, ⟨clock, closed, total, hcount⟩, rfl⟩ |
        ⟨rfl, hdue, ⟨clock, periods, high, hwidth⟩, rfl⟩ := hcase
      · exact ⟨_, congrArg Host.Outcome.next
          (widthEndEvent_of_timely (inFlight_of_running (running_of_stage hstage) hm) hwidth htimely)⟩
      · exact ⟨_, congrArg Host.Outcome.next
          (countTimeoutEvent_of_due (inFlight_of_running (running_elapse ms hstage) hm) hcount hdue)⟩
      · exact ⟨_, congrArg Host.Outcome.next
          (widthTimeoutEvent_of_due (inFlight_of_running (running_elapse ms hstage) hm) hwidth hdue)⟩
    obtain ⟨gathered, hends⟩ := hends
    rw [hends]
    exact ⟨fun hplain hfirst => congrArg Host.Outcome.next (post_of_first_abort hepoch hplain hfirst),
      fun hplain hagain => congrArg Host.Outcome.next (post_of_second_abort hepoch hplain hagain),
      fun happlied => congrArg Host.Outcome.next (post_of_applied_abort hepoch happlied)⟩
  case next =>
    rintro g s x slot next rfl rfl hslot
    rw [updateGroup, moveOn_of_next _ g hslot]
    rfl

end Sys2Proof.Proofs.Measurements

/-! PROOF. Cell estimation: the evidence, the case table and its fallbacks, and one computation of the sweep (R64, R65, R69
to R80, R83). -/
namespace Sys2Proof.Proofs.Estimation
open Sys2Proof Sys2Proof.Machine

/-! ### Contributors (R70) -/

theorem clampTemp_eq (x : Int) : clampTemp x = max (-500) (min 13500 x) := by
  unfold clampTemp clamp
  split
  · omega
  · split <;> omega

theorem contributorOf_of_named {g : GlobalRecord} {now : Word} {readings : Vector Reading 128} {item : SourceItem}
    {l : LineIx} {t : Int} {q : Quality} (hl : l.1 = item.line) (ht : (readings.get l).temperature = some t)
    (hq : (readings.get l).quality = some q) :
    contributorOf g now readings item =
      if (readings.get l).status = .ok ∧ (now - (readings.get l).stamp).toNat ≤ g.staleLimit * 1000 then
        some { value := max (-500) (min 13500 (t + item.trim)), quality := q }
      else none := by
  simp only [contributorOf, (lineIx?_some _ l).2 hl, ht, hq, age, clampTemp_eq]
  cases hstatus : (readings.get l).status
  case ok => simp
  all_goals simp

theorem contributorOf_of_bad {g : GlobalRecord} {now : Word} {readings : Vector Reading 128} {item : SourceItem}
    {l : LineIx} (hl : l.1 = item.line) (hbad : (readings.get l).status ≠ .ok ∨ (readings.get l).temperature = none) :
    contributorOf g now readings item = none := by
  simp only [contributorOf, (lineIx?_some _ l).2 hl]
  split
  · next hok htemp _ =>
    obtain hbad | hbad := hbad
    · exact absurd hok hbad
    · simp [hbad] at htemp
  · rfl

theorem contributorOf_of_unnamed {g : GlobalRecord} {now : Word} {readings : Vector Reading 128} {item : SourceItem}
    (h : 128 ≤ item.line) : contributorOf g now readings item = none := by
  simp only [contributorOf, (lineIx?_none _).2 h]

/-- Settles O46: an item contributes by its line's record, and one that names no line does not. -/
theorem contributorsAreFreshReadings : Obligations.ContributorsAreFreshReadings :=
  ⟨fun _ _ _ _ _ _ _ hl ht hq => contributorOf_of_named hl ht hq,
    fun _ _ _ _ => ⟨fun _ hl hbad => contributorOf_of_bad hl (.inl hbad),
      fun _ hl hnone => contributorOf_of_bad hl (.inr hnone), contributorOf_of_unnamed⟩⟩

/-! ### The largest and the smallest contributor (R70, R72) -/

theorem largest_cons (x : Int) (c : Contributor) (xs : List Contributor) :
    largest x (c :: xs) = largest (max x c.value) xs := by
  have hmax : (if x < c.value then c.value else x) = max x c.value := by split <;> omega
  rw [← hmax]
  rfl

theorem smallest_cons (x : Int) (c : Contributor) (xs : List Contributor) :
    smallest x (c :: xs) = smallest (min x c.value) xs := by
  have hmin : (if c.value < x then c.value else x) = min x c.value := by split <;> omega
  rw [← hmin]
  rfl

/-- The largest bounds the start and every value, and is one of them. -/
theorem largest_spec (xs : List Contributor) : ∀ x : Int,
    (largest x xs = x ∨ ∃ c ∈ xs, c.value = largest x xs) ∧ x ≤ largest x xs ∧ ∀ c ∈ xs, c.value ≤ largest x xs := by
  induction xs with
  | nil => exact fun x => ⟨.inl rfl, Int.le_refl x, by simp⟩
  | cons c xs ih =>
    intro x
    obtain ⟨hfrom, hstart, hall⟩ := ih (max x c.value)
    rw [largest_cons]
    refine ⟨?_, by omega, List.forall_mem_cons.2 ⟨by omega, hall⟩⟩
    obtain heq | ⟨d, hd, hvalue⟩ := hfrom
    · obtain hx | hc : max x c.value = x ∨ max x c.value = c.value := by omega
      · exact .inl (heq.trans hx)
      · exact .inr ⟨c, List.mem_cons_self, (heq.trans hc).symm⟩
    · exact .inr ⟨d, List.mem_cons_of_mem c hd, hvalue⟩

/-- The smallest bounds the start and every value from below, and is one of them. -/
theorem smallest_spec (xs : List Contributor) : ∀ x : Int,
    (smallest x xs = x ∨ ∃ c ∈ xs, c.value = smallest x xs) ∧ smallest x xs ≤ x ∧
      ∀ c ∈ xs, smallest x xs ≤ c.value := by
  induction xs with
  | nil => exact fun x => ⟨.inl rfl, Int.le_refl x, by simp⟩
  | cons c xs ih =>
    intro x
    obtain ⟨hfrom, hstart, hall⟩ := ih (min x c.value)
    rw [smallest_cons]
    refine ⟨?_, by omega, List.forall_mem_cons.2 ⟨by omega, hall⟩⟩
    obtain heq | ⟨d, hd, hvalue⟩ := hfrom
    · obtain hx | hc : min x c.value = x ∨ min x c.value = c.value := by omega
      · exact .inl (heq.trans hx)
      · exact .inr ⟨c, List.mem_cons_self, (heq.trans hc).symm⟩
    · exact .inr ⟨d, List.mem_cons_of_mem c hd, hvalue⟩

/-- The spread is taken between two contributors that bound the others. -/
theorem spread_spec {xs : List Contributor} (hne : xs ≠ []) :
    ∃ hi lo : Int, (∃ c ∈ xs, c.value = hi) ∧ (∀ c ∈ xs, c.value ≤ hi) ∧ (∃ c ∈ xs, c.value = lo) ∧
      (∀ c ∈ xs, lo ≤ c.value) ∧ largestValue xs = hi ∧ spread xs = hi - lo := by
  obtain ⟨x, rest, rfl⟩ := List.exists_cons_of_ne_nil hne
  obtain ⟨hmax, hhead, hall⟩ := largest_spec rest x.value
  obtain ⟨hmin, hhead', hall'⟩ := smallest_spec rest x.value
  refine ⟨largest x.value rest, smallest x.value rest, ?_, List.forall_mem_cons.2 ⟨hhead, hall⟩, ?_,
    List.forall_mem_cons.2 ⟨hhead', hall'⟩, rfl, rfl⟩
  · obtain heq | ⟨c, hc, hvalue⟩ := hmax
    · exact ⟨x, List.mem_cons_self, heq.symm⟩
    · exact ⟨c, List.mem_cons_of_mem x hc, hvalue⟩
  · obtain heq | ⟨c, hc, hvalue⟩ := hmin
    · exact ⟨x, List.mem_cons_self, heq.symm⟩
    · exact ⟨c, List.mem_cons_of_mem x hc, hvalue⟩

/-! ### The case table (R68, R69, R71 to R78) -/

theorem olderAge_eq {w : Working} (h : w.ageCounter ≤ 255) : olderAge w = min (w.ageCounter + 1) 255 := by
  unfold olderAge
  split <;> omega

theorem cellOutcome_of_offline {s : State} {i : CellIx} (h : (s.passes.get (passOf i)).state = .offline) :
    cellOutcome s i = absentOutcome .offline false (s.working.get i).lastEstimate (s.working.get i) := if_pos h

theorem cellOutcome_of_mismatch {s : State} {i : CellIx} (hpass : (s.passes.get (passOf i)).state ≠ .offline)
    (hcode : checkCode i.1 (s.active.config.cells.get i) ≠ s.active.codes.get i) :
    cellOutcome s i = absentOutcome .checkFail false none (s.working.get i) := by
  have hbroken : entryIntact s.active i = false := decide_eq_false hcode
  simp only [cellOutcome, if_neg hpass, hbroken]
  rfl

theorem cellOutcome_of_intact {s : State} {i : CellIx} (hpass : (s.passes.get (passOf i)).state ≠ .offline)
    (hcode : checkCode i.1 (s.active.config.cells.get i) = s.active.codes.get i) :
    cellOutcome s i = caseTable s.active.config.globals
      ((s.active.config.cells.get i).sources.filterMap
        (contributorOf s.active.config.globals s.timebase.partTime s.readings))
      (qualifyingSample s.active.config.globals s.timebase.partTime (s.scanTable.get i))
      (neighbourEstimate s (s.active.config.cells.get i).fallback) (s.working.get i) := by
  have hintact : entryIntact s.active i = true := decide_eq_true hcode
  simp only [cellOutcome, if_neg hpass, hintact]
  rfl

theorem caseTable_of_heads {xs : List Contributor} (hne : xs ≠ []) (g : GlobalRecord) (sample neighbour : Option Int)
    (w : Working) : caseTable g xs sample neighbour w = headCase g xs sample := by
  obtain ⟨x, rest, rfl⟩ := List.exists_cons_of_ne_nil hne
  rfl

theorem headValue_eq (g : GlobalRecord) (xs : List Contributor) :
    headValue g xs = if spread xs ≤ g.disagreement
      then roundDiv (xs.map fun c => c.value).sum xs.length else largestValue xs := by
  by_cases hagree : spread xs ≤ g.disagreement <;> simp [headValue, agreeing, meanValue, hagree]

theorem headCase_of_override {g : GlobalRecord} {xs : List Contributor} {t : Int}
    (hover : (g.scanMargin : Int) < t - headValue g xs) :
    headCase g xs (some t) = estimateOutcome t .uncertain .scanOverride xs.length true 0 := by
  simp only [headCase, overridingSample, if_pos hover]

theorem headCase_of_heads {g : GlobalRecord} {xs : List Contributor} {sample : Option Int}
    (hunder : ∀ t, sample = some t → t - headValue g xs ≤ g.scanMargin) :
    headCase g xs sample =
      estimateOutcome (headValue g xs)
        (if spread xs ≤ g.disagreement then (if xs.all fun c => decide (c.quality = .good) then .good else .degraded)
          else .uncertain)
        (if spread xs ≤ g.disagreement then .heads else .headsSplit) xs.length sample.isSome 0 := by
  have hnone : overridingSample g xs sample = none := by
    cases sample with
    | none => rfl
    | some t => exact if_neg (Int.not_lt.2 (hunder t rfl))
  by_cases hagree : spread xs ≤ g.disagreement
  · simp [headCase, hnone, agreeing, headValue, hagree]
  · simp [headCase, hnone, agreeing, headValue, hagree]

theorem fallbackCase_of_held {g : GlobalRecord} {w : Working} {last : Int} (hlast : w.lastEstimate = some last)
    (hfresh : w.staleCounter < g.staleHold) :
    fallbackCase g none w =
      { estimate := some last, quality := .stale, source := .held, contributors := 0, scanPresent := false
        lastEstimate := some last, staleCounter := w.staleCounter + 1, ageCounter := olderAge w } := by
  simp only [fallbackCase, hlast, if_pos hfresh]

theorem fallbackCase_of_exhausted {g : GlobalRecord} {w : Working}
    (h : w.lastEstimate = none ∨ g.staleHold ≤ w.staleCounter) :
    fallbackCase g none w = absentOutcome .noData false none w := by
  simp only [fallbackCase]
  split
  · next last hlast =>
    obtain hnone | hstale := h
    · simp [hlast] at hnone
    · exact if_neg (Nat.not_lt.2 hstale)
  · rfl

/-! ### The neighbour (R76) -/

theorem lentEstimate_eq (r : CellRecord) :
    lentEstimate r = if r.source = .heads ∧ (r.quality = .good ∨ r.quality = .degraded) then r.estimate else none := by
  unfold lentEstimate
  split
  · next hheads =>
    split
    · next hgood => simp [hheads, hgood]
    · next hdegraded => simp [hheads, hdegraded]
    all_goals next hother => simp [hother]
  all_goals next hother => simp [hother]

theorem neighbourEstimate_of_unnamed {s : State} {f : Fallback} (h : 640 ≤ f.cell) :
    neighbourEstimate s (some f) = none := by
  simp only [neighbourEstimate, (cellIx?_none _).2 h]

theorem neighbourEstimate_of_named {s : State} {f : Fallback} {j : CellIx} (hj : j.1 = f.cell) :
    neighbourEstimate s (some f) =
      (lentEstimate (publishedRecord s j)).map fun e => max (-500) (min 13500 (e + f.offset)) := by
  simp only [neighbourEstimate, (cellIx?_some _ j).2 hj, clampTemp_eq]

theorem publishedRecord_of_none {s : State} {j : CellIx} (h : s.published.get (passOf j) = none) :
    publishedRecord s j = CellRecord.unpublished := by
  simp only [publishedRecord, h]

theorem publishedRecord_of_some {s : State} {j : CellIx} {x : Publication}
    (h : s.published.get (passOf j) = some x) : publishedRecord s j = x.records.get (placeOf j) := by
  simp only [publishedRecord, h]

/-- Settles O47: the outcome by the pass, the check code and the case table; the spread; the neighbour. -/
theorem cellOutcomeTable : Obligations.CellOutcomeTable := by
  refine ⟨?outcome, fun xs hne => spread_spec hne, fun s => ⟨rfl, fun f => ⟨neighbourEstimate_of_unnamed, ?neighbour⟩⟩⟩
  case outcome =>
    rintro s i w g e xs sample older rfl rfl rfl hxs hsample holder hage
    obtain rfl : older = olderAge (s.working.get i) := holder.trans (olderAge_eq hage).symm
    obtain rfl : sample = qualifyingSample s.active.config.globals s.timebase.partTime (s.scanTable.get i) :=
      hsample.trans (by cases s.scanTable.get i <;> rfl)
    refine ⟨cellOutcome_of_offline, cellOutcome_of_mismatch, fun hpass hcode => ?_⟩
    have htable := cellOutcome_of_intact hpass hcode
    rw [← hxs] at htable
    generalize qualifyingSample s.active.config.globals s.timebase.partTime (s.scanTable.get i) = sample at htable ⊢
    refine ⟨fun hne head hhead => ?_, ?_, ?_⟩
    · rw [caseTable_of_heads hne] at htable
      obtain rfl : head = headValue s.active.config.globals xs := hhead.trans (headValue_eq _ xs).symm
      refine ⟨?_, fun hunder => htable.trans (headCase_of_heads hunder)⟩
      rintro t rfl hover
      exact htable.trans (headCase_of_override hover)
    · rintro t rfl rfl
      exact htable
    · rintro rfl rfl
      refine ⟨fun lent hlent => ?_, fun last hnone hlast hfresh => ?_, fun hnone hexhausted => ?_⟩
      · rw [hlent] at htable
        exact htable
      · rw [hnone] at htable
        exact htable.trans (fallbackCase_of_held hlast hfresh)
      · rw [hnone] at htable
        exact htable.trans (fallbackCase_of_exhausted hexhausted)
  case neighbour =>
    refine fun j hj => ⟨fun hnone => ?_, fun x r hx hr => ?_⟩
    · rw [neighbourEstimate_of_named hj, publishedRecord_of_none hnone]
      rfl
    · rw [neighbourEstimate_of_named hj, publishedRecord_of_some hx, ← hr, lentEstimate_eq]
      split <;> rfl

/-! ### The rate (R80) -/

theorem updateRate_of_unknown {g : GlobalRecord} {k : Word} {q : Quality} {estimate : Option Int} {w : Working}
    (h : knownQuality q = false) : updateRate g k q estimate w = (none, none) := by
  simp only [updateRate, h]

theorem updateRate_of_first {g : GlobalRecord} {k : Word} {q : Quality} {e : Int} {w : Working}
    (h : knownQuality q = true) (href : w.rateRef = none) :
    updateRate g k q (some e) w = (some { estimate := e, sweep := k }, none) := by
  simp only [updateRate, h, href]

theorem updateRate_of_within {g : GlobalRecord} {k : Word} {q : Quality} {e : Int} {w : Working} {x : RateReference}
    (h : knownQuality q = true) (href : w.rateRef = some x) (hwithin : (k - x.sweep).toNat < g.rateWindow) :
    updateRate g k q (some e) w = (some x, w.rate) := by
  simp only [updateRate, h, href, if_pos hwithin]

theorem updateRate_of_elapsed {g : GlobalRecord} {k : Word} {q : Quality} {e : Int} {w : Working} {x : RateReference}
    (h : knownQuality q = true) (href : w.rateRef = some x) (helapsed : g.rateWindow ≤ (k - x.sweep).toNat) :
    updateRate g k q (some e) w = (some { estimate := e, sweep := k }, some (measuredRate g x.estimate e)) := by
  simp only [updateRate, h, href, if_neg (Nat.not_lt.2 helapsed)]

theorem clamp_eq {lo hi : Int} (x : Int) (h : lo ≤ hi) : clamp lo hi x = max lo (min hi x) := by
  unfold clamp
  split
  · omega
  · split <;> omega

theorem measuredRate_eq (g : GlobalRecord) (before after : Int) :
    measuredRate g before after =
      max (-32767) (min 32767 (roundDiv ((after - before) * 60000) (g.rateWindow * g.sweepPeriod))) :=
  clamp_eq _ (by decide)

/-! ### One computation (R64, R65, R69, R79, R83) -/

theorem exists_estimate_caseTable (g : GlobalRecord) (xs : List Contributor) (sample neighbour : Option Int)
    (w : Working) (h : knownQuality (caseTable g xs sample neighbour w).quality = true) :
    ∃ e, (caseTable g xs sample neighbour w).estimate = some e := by
  unfold caseTable at h ⊢
  split at h
  · exact ⟨_, rfl⟩
  · unfold fallbackCase at h ⊢
    split at h
    · exact ⟨_, rfl⟩
    · split at h
      · split at h <;> cases h
      · cases h
  · unfold headCase at h ⊢
    split
    · exact ⟨_, rfl⟩
    · split <;> exact ⟨_, rfl⟩

theorem quality_caseTable_ne_checkFail (g : GlobalRecord) (xs : List Contributor) (sample neighbour : Option Int)
    (w : Working) : (caseTable g xs sample neighbour w).quality ≠ .checkFail := by
  unfold caseTable
  split
  · simp [estimateOutcome]
  · unfold fallbackCase
    split
    · simp [estimateOutcome]
    · split
      · split <;> simp [absentOutcome]
      · simp [absentOutcome]
  · unfold headCase
    split
    · simp [estimateOutcome]
    · split
      · simp only [estimateOutcome]; split <;> simp
      · simp [estimateOutcome]

/-- A known outcome has an estimate (R101). -/
theorem exists_estimate_of_known {s : State} {i : CellIx} (h : knownQuality (cellOutcome s i).quality = true) :
    ∃ e, (cellOutcome s i).estimate = some e := by
  by_cases hpass : (s.passes.get (passOf i)).state = .offline
  · rw [cellOutcome_of_offline hpass] at h; cases h
  · by_cases hcode : checkCode i.1 (s.active.config.cells.get i) = s.active.codes.get i
    · rw [cellOutcome_of_intact hpass hcode] at h ⊢
      exact exists_estimate_caseTable _ _ _ _ _ h
    · rw [cellOutcome_of_mismatch hpass hcode] at h; cases h

theorem knownQuality_iff {q : Quality} : knownQuality q = true ↔ q = .good ∨ q = .degraded ∨ q = .uncertain := by
  cases q <;> simp [knownQuality]

theorem knownQuality_eq_false {q : Quality} :
    knownQuality q = false ↔ q = .stale ∨ q = .noData ∨ q = .checkFail ∨ q = .offline := by
  cases q <;> simp [knownQuality]

/-- The rate of an outcome in the words of R80. -/
theorem updateRate_outcome {s : State} {i : CellIx} {k : Word} {o : Machine.Outcome} {g : GlobalRecord} {w : Working}
    {ref : Option RateReference} {rate : Option Int} (ho : o = cellOutcome s i)
    (hunknown : o.quality = .stale ∨ o.quality = .noData ∨ o.quality = .checkFail ∨ o.quality = .offline →
      ref = none ∧ rate = none)
    (hknown : ∀ e, o.quality = .good ∨ o.quality = .degraded ∨ o.quality = .uncertain → o.estimate = some e →
      (w.rateRef = none → ref = some { estimate := e, sweep := k } ∧ rate = none) ∧
      (∀ x, w.rateRef = some x →
        ((k - x.sweep).toNat < g.rateWindow → ref = some x ∧ rate = w.rate) ∧
        (g.rateWindow ≤ (k - x.sweep).toNat →
          ref = some { estimate := e, sweep := k } ∧ rate = some (measuredRate g x.estimate e)))) :
    updateRate g k o.quality o.estimate w = (ref, rate) := by
  cases hq : knownQuality o.quality with
  | false =>
    obtain ⟨rfl, rfl⟩ := hunknown (knownQuality_eq_false.1 hq)
    exact updateRate_of_unknown hq
  | true =>
    obtain ⟨e, he⟩ : ∃ e, o.estimate = some e := by
      rw [ho] at hq ⊢
      exact exists_estimate_of_known hq
    obtain ⟨hfirst, hagain⟩ := hknown e (knownQuality_iff.1 hq) he
    rw [he]
    cases href : w.rateRef with
    | none =>
      obtain ⟨rfl, rfl⟩ := hfirst href
      exact updateRate_of_first hq href
    | some x =>
      obtain ⟨hwithin, helapsed⟩ := hagain x href
      by_cases hwindow : (k - x.sweep).toNat < g.rateWindow
      · obtain ⟨rfl, rfl⟩ := hwithin hwindow
        exact updateRate_of_within hq href hwindow
      · obtain ⟨rfl, rfl⟩ := helapsed (Nat.not_lt.1 hwindow)
        exact updateRate_of_elapsed hq href (Nat.not_lt.1 hwindow)

/-- A first mismatch is a CHECK_FAIL outcome of a cell that has reported none (R69). -/
theorem freshMismatch_eq (s : State) (i : CellIx) :
    freshMismatch s i =
      decide ((cellOutcome s i).quality = .checkFail ∧ (s.working.get i).mismatchReported = false) := by
  by_cases hpass : (s.passes.get (passOf i)).state = .offline
  · simp [freshMismatch, hpass, cellOutcome_of_offline, absentOutcome]
  · by_cases hcode : checkCode i.1 (s.active.config.cells.get i) = s.active.codes.get i
    · have hother : (cellOutcome s i).quality ≠ .checkFail := by
        rw [cellOutcome_of_intact hpass hcode]
        exact quality_caseTable_ne_checkFail _ _ _ _ _
      simp [freshMismatch, entryIntact, hcode, hother]
    · simp [freshMismatch, entryIntact, hpass, hcode, cellOutcome_of_mismatch hpass hcode, absentOutcome]

@[simp] theorem changeAlarm_active (i : CellIx) (a : AlarmRecord) (s : State) :
    (changeAlarm i a s).active = s.active := by
  unfold changeAlarm
  split
  · rfl
  · simp

@[simp] theorem reportMismatch_active (found : Bool) (i : CellIx) (s : State) :
    (reportMismatch found i s).active = s.active := by
  cases found <;> simp [reportMismatch]

@[simp] theorem reportMismatch_alarms (found : Bool) (i : CellIx) (s : State) :
    (reportMismatch found i s).alarms = s.alarms := by
  cases found <;> simp [reportMismatch]

theorem takeHandOff_eq (h : HandOff) (s : State) :
    takeHandOff h s = changeAlarm h.cell (moveRecord h (s.alarms.get h.cell)) s := rfl

theorem highInForce_eq (r : PassRecord) (st : PassState) :
    ((highInForce r st : Nat) : Int) = if st = .spall then (r.spallHigh : Int) else r.high := by
  unfold highInForce
  split <;> rfl

theorem highHighInForce_eq (r : PassRecord) (st : PassState) :
    ((highHighInForce r st : Nat) : Int) = if st = .spall then (r.spallHighHigh : Int) else r.highHigh := by
  unfold highHighInForce
  split <;> rfl

/-- A computation as its working values, its fault and its hand-off. -/
theorem computeCell_eq {k : Word} {i : CellIx} {s t : State} {h : HandOff} {ref : Option RateReference}
    {rate : Option Int} {mismatch : Bool}
    (hrate : updateRate s.active.config.globals k (cellOutcome s i).quality (cellOutcome s i).estimate
      (s.working.get i) = (ref, rate))
    (hmismatch : freshMismatch s i = mismatch) (hhand : handOffOf s k i (cellOutcome s i) rate = h)
    (ht : t = { s with
      working := (put s.working i (workingAfter (cellOutcome s i) (ref, rate) mismatch (s.working.get i))) }) :
    computeCell k i s = changeAlarm i (moveRecord h (s.alarms.get i))
      (if mismatch then handFault .sweep .checkMismatch (.cell i) t else t) := by
  have hcell : h.cell = i := by rw [← hhand]; rfl
  subst ht
  simp only [computeCell, hrate, hmismatch, hhand, takeHandOff_eq, hcell, reportMismatch_alarms]
  simp only [reportMismatch]

theorem exec_cellComputation {s : State} {run : SweepRun} {i : CellIx} {rest : List CellIx}
    (hsweep : s.sweep = some run) (htodo : run.todo = i :: rest) :
    exec .cellComputation s = .next (advanceSweep run.number i rest
      (put run.working (placeOf i) (computedRecord run.number i s)) (computeCell run.number i s)) := by
  change Host.Outcome.next (cellComputationEvent s) = _
  simp only [cellComputationEvent, hsweep, htodo]

/-- Settles O49: the computation is `computeCell_eq`, and what follows it goes by the rest of the sweep. -/
theorem cellComputationAdvancesSweep : Obligations.CellComputationAdvancesSweep := by
  rintro s run i rest o w ref rate r st mismatch h copy hsweep htodo rfl rfl hunknown hknown rfl rfl rfl hh rfl
  rintro t u ht rfl
  have hrate := updateRate_outcome (g := s.active.config.globals) rfl hunknown fun e hq he => by
    simpa only [measuredRate_eq] using hknown e hq he
  have hhand : handOffOf s run.number i (cellOutcome s i) rate = h := by
    rw [hh]
    simp only [handOffOf, highInForce_eq, highHighInForce_eq]
  have hrecord : computedRecord run.number i s = recordOf (cellOutcome s i) rate := by
    simp only [computedRecord, hrate]
  rw [exec_cellComputation hsweep htodo, computeCell_eq hrate (freshMismatch_eq s i) hhand ht, hrecord]
  have hactive : ∀ a : AlarmRecord, (changeAlarm i a
      (if decide ((cellOutcome s i).quality = .checkFail ∧ (s.working.get i).mismatchReported = false) then
        handFault .sweep .checkMismatch (.cell i) t else t)).active = s.active := by
    intro a
    rw [changeAlarm_active]
    split <;> simp [ht]
  specialize hactive (moveRecord h (s.alarms.get i))
  revert hactive
  generalize changeAlarm i _ _ = u
  intro hactive
  simp only [advanceSweep, publicationOf, hactive]
  cases rest <;> rfl

end Sys2Proof.Proofs.Estimation

/-! PROOF. The sweep boundary and the application of a pending commit at a sweep start (R36, R40, R41, R56, R62 to R65, R87,
R98, R118, R130, R145 to R148). -/
namespace Sys2Proof.Proofs.Applications
open Sys2Proof Sys2Proof.Machine Sys2Proof.Proofs.Frames Sys2Proof.Proofs.Expiries Sys2Proof.Proofs.Reports
open Sys2Proof.Proofs.Passes Sys2Proof.Proofs.Commits

theorem put_get_id {α : Type} {n : Nat} (v : Vector α n) (i : Fin n) : put v i (v.get i) = v :=
  table_ext _ _ fun j => by
    rw [put_get]
    split
    · next h => rw [h]
    · rfl

/-! ### The boundary (R62 to R65) -/

theorem sweepBoundaryEvent_of_ahead {u : State} (h : 2147483648 ≤ (u.timebase.partTime - u.nextBoundary).toNat) :
    sweepBoundaryEvent u = u :=
  if_neg fun hreached => Nat.not_lt.2 h (decide_eq_true_iff.1 hreached.2)

theorem sweepBoundaryEvent_of_busy {u : State} (hrunning : u.running = true)
    (h : (u.timebase.partTime - u.nextBoundary).toNat < 2147483648) (hsweep : u.sweep ≠ none) :
    sweepBoundaryEvent u = nextInterval u := by
  rw [sweepBoundaryEvent, if_pos ⟨hrunning, decide_eq_true h⟩]
  split
  · rfl
  · next hnone => exact absurd hnone hsweep

theorem sweepBoundaryEvent_of_idle {u : State} (hrunning : u.running = true)
    (h : (u.timebase.partTime - u.nextBoundary).toNat < 2147483648) (hsweep : u.sweep = none) :
    sweepBoundaryEvent u = beginProcessing (nextInterval (sweepStart u)) := by
  rw [sweepBoundaryEvent, if_pos ⟨hrunning, decide_eq_true h⟩, hsweep]

theorem considerCommit_of_idle {u : State} (h : ∀ e, u.edit = some e → e.commitPending = false) :
    considerCommit u = u := by
  unfold considerCommit
  split
  · rfl
  · next e he => exact if_pos (.inl (h e he))

/-- A pass with nothing to settle is left as it is. -/
theorem settlePass_of_nothing {u : State} {q : PassIx}
    (hused : 1 ≤ (u.active.config.passes.get q).tubeCount → (u.passes.get q).target = none)
    (hunused : (u.active.config.passes.get q).tubeCount = 0 → u.passes.get q = PassService.online) :
    settlePass u q = u := by
  obtain hzero | hpos := Nat.eq_zero_or_pos (u.active.config.passes.get q).tubeCount
  · have honline := hunused hzero
    rw [settlePass_of_unused hzero, setPass_of_same (by rw [honline]), ← honline, put_get_id]
  · exact settlePass_of_settled hpos (hused hpos)

theorem settleAll_of_nothing {u : State}
    (h : ∀ q : PassIx, (1 ≤ (u.active.config.passes.get q).tubeCount → (u.passes.get q).target = none) ∧
      ((u.active.config.passes.get q).tubeCount = 0 → u.passes.get q = PassService.online)) : settleAll u = u :=
  List.foldlRecOn (motive := fun s => s = u) _ settlePass rfl fun s hs q _ => by
    rw [hs]
    exact settlePass_of_nothing (h q).1 (h q).2

theorem beginProcessing_of_empty {s : State} (h : ∀ i, cellExists s.active.config i = false) :
    beginProcessing s = { s with completed := s.completed + 1#32 } := by
  have hnone : existingCells s.active.config = [] :=
    List.eq_nil_iff_forall_not_mem.2 fun i hi => Bool.eq_false_iff.1 (h i) (List.mem_filter.1 hi).2
  unfold beginProcessing
  split
  · rfl
  · next i rest hcells => simp [hnone] at hcells

theorem beginProcessing_of_cell {s : State} {i : CellIx} (h : cellExists s.active.config i = true) :
    beginProcessing s = { s with
      sweep := some { number := s.completed + 1#32, todo := existingCells s.active.config, working := blankCopy } } := by
  have hmem : i ∈ existingCells s.active.config := List.mem_filter.2 ⟨List.mem_finRange i, h⟩
  unfold beginProcessing
  split
  · next hnone => simp [hnone] at hmem
  · next hcells => rw [hcells]

/-- Settles O43: the boundary ahead, the boundary in a sweep, and the start of a sweep. -/
theorem sweepBoundaryStartsSweep : Obligations.SweepBoundaryStartsSweep := by
  rintro ms s u v hstage rfl rfl
  have hrunning := running_elapse ms hstage
  refine ⟨fun hahead => congrArg Host.Outcome.next (sweepBoundaryEvent_of_ahead hahead),
    fun hreached => ⟨fun hbusy => congrArg Host.Outcome.next (sweepBoundaryEvent_of_busy hrunning hreached hbusy),
      fun hidle => congrArg Host.Outcome.next (sweepBoundaryEvent_of_idle hrunning hreached hidle),
      fun hidle hcommit hpasses => ?_⟩⟩
  have hstart : sweepBoundaryEvent (elapse ms s) = beginProcessing (nextInterval (elapse ms s)) := by
    rw [sweepBoundaryEvent_of_idle hrunning hreached hidle, sweepStart, considerCommit_of_idle hcommit,
      settleAll_of_nothing hpasses]
  exact ⟨fun hnone => congrArg Host.Outcome.next (hstart.trans (beginProcessing_of_empty hnone)),
    fun i hi => congrArg Host.Outcome.next (hstart.trans (beginProcessing_of_cell hi))⟩

/-! ### Whether a pending commit is taken (R145, R146) -/

theorem considerCommit_of_store {s : State} (hstore : s.store ≠ none) : considerCommit s = s := by
  unfold considerCommit
  split
  · rfl
  · exact if_pos (.inr (Option.isSome_iff_ne_none.2 hstore))

theorem considerCommit_of_pending {s : State} {e : EditClaim} (he : s.edit = some e) (hpending : e.commitPending = true)
    (hstore : s.store = none) :
    considerCommit s = (alarmedVanishing s.alarms s.active.config e.staged).elim (applyCommit e.staged s)
      fun _ => dropCommit e s := by
  have hfree : ¬(e.commitPending = false ∨ s.store.isSome = true) := by simp [hpending, hstore]
  simp only [considerCommit, he, if_neg hfree]
  cases alarmedVanishing s.alarms s.active.config e.staged <;> rfl

theorem alarmedVanishing_of_lost {s : State} {after : Configuration} {i : CellIx} (hi : Lost s after i) :
    ∃ j, alarmedVanishing s.alarms s.active.config after = some j :=
  Option.isSome_iff_exists.1 (List.find?_isSome.2 ⟨i, List.mem_finRange i, lost_iff.2 hi⟩)

/-! ### The multiplier enable (R56) -/

/-- A changed multiplier enable starts or ends an acquisition. -/
def enableChanges (before after : Bool) (t : Timebase) : Bool :=
  decide (before = false ∧ after = true ∧ t.state = .bypass ∨
    before = true ∧ after = false ∧ (t.state = .acquiring ∨ t.state = .locked))

/-- The timebase after an application with these enables. -/
def enabledTimebase (before after : Bool) (t : Timebase) : Timebase :=
  if enableChanges before after t = true ∧ after = true then
    { t with state := .acquiring, lock := some 0, retry := none, epoch := t.epoch + 1#16 }
  else if enableChanges before after t = true then
    { t with state := .bypass, breakSeen := false, proving := none, lock := none, retry := none
             epoch := t.epoch + 1#16 }
  else if before = true ∧ after = false ∧ t.state = .bypass then { t with retry := none }
  else t

theorem takeUpEnable_of_enabled (s : State) :
    takeUpEnable false true s = if s.timebase.state = .bypass then startAcquisition s else s := by
  cases hstate : s.timebase.state <;> simp [takeUpEnable, hstate]

theorem takeUpEnable_of_disabled (s : State) :
    takeUpEnable true false s =
      if s.timebase.state = .acquiring ∨ s.timebase.state = .locked then goBypass s
      else if s.timebase.state = .bypass then { s with timebase := { s.timebase with retry := none } } else s := by
  cases hstate : s.timebase.state <;> simp [takeUpEnable, hstate]

theorem takeUpEnable_of_same (b : Bool) (s : State) : takeUpEnable b b s = s := if_pos rfl

/-- What an application's enables do to the timebase, and the notice of a change. -/
theorem takeUpEnable_eq (before after : Bool) (s : State) :
    takeUpEnable before after s =
      { s with
        timebase := enabledTimebase before after s.timebase
        ports := if enableChanges before after s.timebase then
          s.ports.map fun u => { u with notices := raiseNotice .timebaseChange u.notices } else s.ports } := by
  by_cases hsame : before = after
  · subst hsame
    rw [takeUpEnable_of_same]
    cases before <;> simp [enabledTimebase, enableChanges]
  · cases before with
    | false =>
      obtain rfl : after = true := by simpa using hsame
      rw [takeUpEnable_of_enabled]
      by_cases hbypass : s.timebase.state = .bypass
      · simp only [enabledTimebase, enableChanges, hbypass]; rfl
      · simp [enabledTimebase, enableChanges, hbypass]
    | true =>
      obtain rfl : after = false := by simpa using hsame
      rw [takeUpEnable_of_disabled]
      by_cases hmultiplied : s.timebase.state = .acquiring ∨ s.timebase.state = .locked
      · simp [enabledTimebase, enableChanges, hmultiplied]; rfl
      · by_cases hbypass : s.timebase.state = .bypass
        · simp [enabledTimebase, enableChanges, hbypass]
        · simp [enabledTimebase, enableChanges, hmultiplied, hbypass]

/-! ### The spall overdue (R130) -/

/-- A pass after a comparison. -/
def comparedPass (due : Bool) (x : PassService) : PassService := { x with overdueNotified := x.overdueNotified || due }

/-- A port after a comparison: the control port alone is told. -/
def toldPort (p : Port) (due : Bool) (u : PortUnit) : PortUnit :=
  { u with notices := { u.notices with
      spallOverdue := u.notices.spallOverdue || (decide (p = .control) && due) } }

theorem comparedPass_false (x : PassService) : comparedPass false x = x := by simp [comparedPass]

theorem toldPort_false (p : Port) (u : PortUnit) : toldPort p false u = u := by simp [toldPort]

theorem toldPort_toldPort (p : Port) (a b : Bool) (u : PortUnit) :
    toldPort p b (toldPort p a u) = toldPort p (a || b) u := by
  simp only [toldPort, Bool.or_assoc, Bool.and_or_distrib_left]

theorem compareOverdue_active (s : State) (q : PassIx) : (compareOverdue s q).active = s.active := by
  rw [compareOverdue_eq]
  split <;> rfl

theorem compareOverdue_frame (s : State) (q : PassIx) :
    ∃ passes ports, compareOverdue s q = { s with passes := passes, ports := ports } := by
  rw [compareOverdue_eq]
  split
  · exact ⟨_, _, rfl⟩
  · exact ⟨_, _, rfl⟩

theorem compareOverdue_passes_self (s : State) (q : PassIx) :
    (compareOverdue s q).passes.get q =
      comparedPass (overdueNow s.active.config (s.passes.get q)) (s.passes.get q) := by
  rw [compareOverdue_eq]
  split
  · next hdue => simp [hdue, comparedPass]
  · next hdue => simp [hdue, comparedPass]

theorem compareOverdue_passes_ne (s : State) {q r : PassIx} (h : q ≠ r) :
    (compareOverdue s q).passes.get r = s.passes.get r := by
  rw [compareOverdue_eq]
  split
  · rw [notify_passes, put_get_ne _ _ _ _ h]
  · rfl

theorem compareOverdue_ports (s : State) (q : PassIx) (p : Port) :
    (compareOverdue s q).ports.get p =
      toldPort p (overdueNow s.active.config (s.passes.get q)) (s.ports.get p) := by
  rw [compareOverdue_eq]
  split
  · next hdue =>
    rw [hdue]
    cases p
    case control => simp [toldPort, notify, State.setPort, raiseNotice]
    all_goals simp [toldPort, notify, State.setPort, PerPort.get, PerPort.set]
  · next hdue => simp [Bool.not_eq_true _ ▸ hdue, toldPort]

/-- The comparison of several passes, each once. -/
theorem foldl_compareOverdue_passes (qs : List PassIx) : ∀ s : State, qs.Nodup → ∀ r,
    (qs.foldl compareOverdue s).passes.get r =
      if r ∈ qs then comparedPass (overdueNow s.active.config (s.passes.get r)) (s.passes.get r)
      else s.passes.get r := by
  induction qs with
  | nil => simp
  | cons q qs ih =>
    intro s hnodup r
    obtain ⟨hnew, hrest⟩ := List.nodup_cons.1 hnodup
    rw [List.foldl_cons, ih _ hrest r, compareOverdue_active]
    by_cases hr : q = r
    · subst hr
      rw [if_neg hnew, if_pos List.mem_cons_self, compareOverdue_passes_self]
    · simp only [compareOverdue_passes_ne s hr, List.mem_cons, Ne.symm hr, false_or]

theorem foldl_compareOverdue_ports (qs : List PassIx) : ∀ s : State, qs.Nodup → ∀ p,
    (qs.foldl compareOverdue s).ports.get p =
      toldPort p (qs.any fun q => overdueNow s.active.config (s.passes.get q)) (s.ports.get p) := by
  induction qs with
  | nil => exact fun s _ p => (toldPort_false p _).symm
  | cons q qs ih =>
    intro s hnodup p
    obtain ⟨hnew, hrest⟩ := List.nodup_cons.1 hnodup
    have hsame : ∀ r ∈ qs, (compareOverdue s q).passes.get r = s.passes.get r := fun r hr =>
      compareOverdue_passes_ne s (ne_of_mem_of_not_mem hr hnew).symm
    have hany : (qs.any fun r => overdueNow s.active.config ((compareOverdue s q).passes.get r)) =
        qs.any fun r => overdueNow s.active.config (s.passes.get r) := by
      rw [Bool.eq_iff_iff, List.any_eq_true, List.any_eq_true]
      exact exists_congr fun r => and_congr_right fun hr => by rw [hsame r hr]
    rw [List.foldl_cons, ih _ hrest p, compareOverdue_active, compareOverdue_ports, toldPort_toldPort, hany, List.any_cons]

theorem foldl_compareOverdue_frame (qs : List PassIx) (s : State) :
    ∃ passes ports, qs.foldl compareOverdue s = { s with passes := passes, ports := ports } :=
  List.foldlRecOn (motive := fun t => ∃ passes ports, t = { s with passes := passes, ports := ports }) qs compareOverdue
    ⟨_, _, rfl⟩ fun t ⟨passes, ports, ht⟩ q _ => by
      obtain ⟨passes', ports', h⟩ := compareOverdue_frame t q
      exact ⟨passes', ports', by rw [h, ht]⟩

/-- An application tells a pass whose spall overdue it changes and finds reached. -/
def overdueTaken (before after : Configuration) (x : PassService) : Bool :=
  overdueNow after x && decide (before.globals.spallOverdue ≠ after.globals.spallOverdue)

theorem takeUpOverdue_passes {before after : Configuration} {s : State} (hafter : s.active.config = after) (q : PassIx) :
    (takeUpOverdue before after s).passes.get q =
      comparedPass (overdueTaken before after (s.passes.get q)) (s.passes.get q) := by
  unfold takeUpOverdue overdueTaken
  split
  · next hsame => simp [hsame, comparedPass]
  · next hchanged =>
    rw [foldl_compareOverdue_passes _ s (List.nodup_finRange 8) q, if_pos (List.mem_finRange q), hafter]
    simp [hchanged]

theorem takeUpOverdue_ports {before after : Configuration} {s : State} (hafter : s.active.config = after) (p : Port) :
    (takeUpOverdue before after s).ports.get p =
      toldPort p ((List.finRange 8).any fun q => overdueTaken before after (s.passes.get q)) (s.ports.get p) := by
  unfold takeUpOverdue overdueTaken
  split
  · next hsame =>
    have hnone : ((List.finRange 8).any fun q => overdueNow after (s.passes.get q) &&
        decide (before.globals.spallOverdue ≠ after.globals.spallOverdue)) = false := by simp [hsame]
    rw [hnone, toldPort_false]
  · next hchanged =>
    rw [foldl_compareOverdue_ports _ s (List.nodup_finRange 8) p, hafter]
    simp [hchanged]

theorem takeUpOverdue_frame (before after : Configuration) (s : State) :
    ∃ passes ports, takeUpOverdue before after s = { s with passes := passes, ports := ports } := by
  unfold takeUpOverdue
  split
  · exact ⟨_, _, rfl⟩
  · exact foldl_compareOverdue_frame _ s

/-! ### The application (R147, R148) -/

/-- The state after every part of an application but the comparison of the spall timers. -/
def takenUp (staged : Configuration) (s : State) : State :=
  { s with
    active := committed s.active staged
    edit := none
    hold := sealHold (retainConfig (committed s.active staged) s.hold.contents)
    timebase := enabledTimebase s.active.config.globals.multiplierEnable staged.globals.multiplierEnable s.timebase
    ports := if enableChanges s.active.config.globals.multiplierEnable staged.globals.multiplierEnable s.timebase then
      (s.ports.map fun u => { u with notices := raiseNotice .configApplied u.notices }).map fun u =>
        { u with notices := raiseNotice .timebaseChange u.notices }
      else s.ports.map fun u => { u with notices := raiseNotice .configApplied u.notices }
    groups := Vector.ofFn fun g => applyToGroup staged g (s.groups.get g)
    scanTable := Vector.ofFn fun i => if vanishes s.active.config staged i then none else s.scanTable.get i
    batch := s.batch.map fun b => { b with buffer := b.buffer.filter fun x => !vanishes s.active.config staged x.cell }
    working := Vector.ofFn fun i => workingAtApplication s.active.config staged i (s.working.get i)
    published := Vector.ofFn fun p => publicationAtApplication s.active.config staged p (s.published.get p) }

theorem applyCommit_eq (staged : Configuration) (s : State) :
    applyCommit staged s = takeUpOverdue s.active.config staged (takenUp staged s) := by
  rw [applyCommit, takeUpEnable_eq]
  rfl

theorem takenUp_ports (staged : Configuration) (s : State) (p : Port) :
    (takenUp staged s).ports.get p =
      { s.ports.get p with notices := { (s.ports.get p).notices with
          configApplied := true
          timebaseChange := (s.ports.get p).notices.timebaseChange ||
            enableChanges s.active.config.globals.multiplierEnable staged.globals.multiplierEnable s.timebase } } := by
  unfold takenUp
  dsimp only
  split
  · next hchanged => simp [hchanged, raiseNotice]
  · next hsame => simp [hsame, raiseNotice]

theorem applyToGroup_of_parked {c : Configuration} {g : GroupIx} {x : CaptureGroup} (h : x.measurement = none) :
    applyToGroup c g x = takeUp c g x := by
  simp only [applyToGroup, h]

theorem applyToGroup_of_measuring {c : Configuration} {g : GroupIx} {x : CaptureGroup} (h : x.measurement ≠ none) :
    applyToGroup c g x = { x with
      applied := true
      refStatus := if (c.lines.get (lineOf g 0)).fitted = true then x.refStatus else .none
      lastRef := if (c.lines.get (lineOf g 0)).fitted = true then x.lastRef else none } := by
  unfold applyToGroup referenceFitted
  split
  · next hnone => exact absurd hnone h
  · split <;> rfl

theorem vanishes_iff {before after : Configuration} {i : CellIx} :
    vanishes before after i = true ↔ cellExists before i = true ∧ cellExists after i = false := by
  simp [vanishes]

theorem publicationAtApplication_eq (before after : Configuration) (q : PassIx) (x : Option Publication) :
    publicationAtApplication before after q x =
      if (before.passes.get q).tubeCount ≠ 0 ∧ (after.passes.get q).tubeCount = 0 then none else x := by
  simp [publicationAtApplication, passUsed, Nat.one_le_iff_ne_zero]

theorem workingAtApplication_of_kept {before after : Configuration} {i : CellIx} (w : Working)
    (hbefore : cellExists before i = true) (hafter : cellExists after i = true) :
    workingAtApplication before after i w =
      if before.cells.get i = after.cells.get i then { w with mismatchReported := false }
      else { Working.restart with ageCounter := w.ageCounter } := by
  simp only [workingAtApplication, hbefore, hafter]
  rfl

theorem workingAtApplication_of_absent {before after : Configuration} {i : CellIx} (w : Working)
    (hbefore : cellExists before i = false) (hafter : cellExists after i = false) :
    workingAtApplication before after i w = { w with mismatchReported := false } := by
  simp only [workingAtApplication, hbefore, hafter]

theorem workingAtApplication_of_changed {before after : Configuration} {i : CellIx} (w : Working)
    (h : cellExists before i ≠ cellExists after i) : workingAtApplication before after i w = Working.restart := by
  unfold workingAtApplication
  split
  · next hbefore hafter => exact absurd (hbefore.trans hafter.symm) h
  · rfl
  · rfl
  · next hbefore hafter => exact absurd (hbefore.trans hafter.symm) h

/-- Settles O44: deferred, dropped, or applied; an application is `takenUp` and the comparison of the spall timers. -/
theorem sweepStartConsidersCommit : Obligations.SweepStartConsidersCommit := by
  intro s e he hpending
  refine ⟨considerCommit_of_store, fun hstore => ⟨?dropped, ?applied⟩⟩
  case dropped =>
    rintro ⟨i, hlost⟩
    obtain ⟨j, hj⟩ := alarmedVanishing_of_lost hlost
    rw [considerCommit_of_pending he hpending hstore, hj]
    rfl
  case applied =>
    rintro hsafe t rfl
    have hnone := alarmedVanishing_of_none fun j => not_lost (hsafe j)
    rw [considerCommit_of_pending he hpending hstore, hnone, Option.elim, applyCommit_eq]
    generalize e.staged = staged
    have hpasses := takeUpOverdue_passes (before := s.active.config) (after := staged) (s := takenUp staged s) rfl
    have hports := takeUpOverdue_ports (before := s.active.config) (after := staged) (s := takenUp staged s) rfl
    obtain ⟨passes, ports, ht⟩ := takeUpOverdue_frame s.active.config staged (takenUp staged s)
    rw [ht] at hpasses hports ⊢
    refine ⟨rfl, fun i => get_ofFn _ i, rfl, rfl, rfl, rfl, rfl, ?shared, ?parked, ?measuring, ?scanTable, ?noBatch,
      ?batch, ?published, ?kept, ?absent, ?changed⟩
    case shared =>
      rintro before after changed notified rfl rfl rfl hnotified
      have htaken : ∀ q, notified q = overdueTaken s.active.config staged (s.passes.get q) := fun q => by
        rw [hnotified, overdueTaken, overdueNow, overdueMs]
        simp only [Bool.and_assoc, Bool.decide_and]
      refine ⟨rfl, fun q => ?_, fun p => ?_⟩
      · rw [htaken]
        exact hpasses q
      · rw [funext htaken]
        refine (hports p).trans ?_
        rw [takenUp_ports]
        rfl
    case parked =>
      exact fun g hparked => (get_ofFn _ g).trans (applyToGroup_of_parked hparked)
    case measuring =>
      exact fun g hmeasuring => (get_ofFn _ g).trans (applyToGroup_of_measuring hmeasuring)
    case scanTable =>
      refine fun i => (get_ofFn _ i).trans ?_
      simp only [vanishes_iff]
    case noBatch =>
      intro hnone
      exact congrArg (Option.map _) hnone
    case batch =>
      intro b hb
      exact congrArg (Option.map _) hb
    case published =>
      exact fun q => (get_ofFn _ q).trans (publicationAtApplication_eq _ _ q _)
    case kept =>
      exact fun i hbefore hafter => (get_ofFn _ i).trans (workingAtApplication_of_kept _ hbefore hafter)
    case absent =>
      exact fun i hbefore hafter => (get_ofFn _ i).trans (workingAtApplication_of_absent _ hbefore hafter)
    case changed =>
      exact fun i hchanged => (get_ofFn _ i).trans (workingAtApplication_of_changed _ hchanged)

end Sys2Proof.Proofs.Applications

/-! PROOF. The start of a restart sequence, the end of RESET_HELD, and what a passed or failed hold check leaves (R171, R173,
R174). -/
namespace Sys2Proof.Proofs.Restarts
open Sys2Proof Sys2Proof.Machine Sys2Proof.Proofs.Sequences Sys2Proof.Proofs.HighHigh Sys2Proof.Proofs.Alarms
open Sys2Proof.Proofs.StoreAndRestart

/-! ### The causes (R171) -/

theorem resetPinEvent_of_high {s : State} (h : s.pins.resetLow = false) :
    resetPinEvent s = abandon .resetPin { s with pins := { s.pins with resetLow := true } } := by
  rw [resetPinEvent, if_neg (by simp [h]), beginWarm]
  exact passHeld_of_low (.inl rfl)

theorem resetPinEvent_of_low {s : State} (h : s.pins.resetLow = true) : resetPinEvent s = s := if_pos h

theorem brownoutEvent_of_fall {s : State} (hcore : s.pins.coreLow = false) (hsupply : s.pins.holdSupply = true) :
    brownoutEvent s = abandon .brownout { s with pins := { s.pins with coreLow := true } } := by
  rw [brownoutEvent, if_neg (by simp [hcore, hsupply]), beginWarm]
  exact passHeld_of_low (.inr rfl)

theorem brownoutEvent_of_nothing {s : State} (h : s.pins.coreLow = true ∨ s.pins.holdSupply = false) :
    brownoutEvent s = s := if_pos h

theorem passHeld_of_powerOn {v : State} (hcore : v.pins.coreLow = false) (hcause : v.cause = .powerOn)
    (hstage : v.stage = .resetHeld) :
    passHeld v = { v with stage := if v.pins.resetLow then .resetHeld else .imageLoad } := by
  cases hreset : v.pins.resetLow with
  | true =>
    rw [passHeld_of_low (.inl hreset), if_pos rfl, ← hstage]
  | false =>
    rw [passHeld_of_high hreset hcore, leaveHeld_of_cold (by rw [hcause]; rfl)]
    rfl

/-- A power-on clears at once, and goes on to IMAGE_LOAD unless RESET_N is low. -/
theorem powerOnEvent_eq (s : State) :
    powerOnEvent s =
      { clearForCold .powerOn (abandon .powerOn { s with pins := { s.pins with coreLow := false, holdSupply := true } })
        with stage := if s.pins.resetLow then .resetHeld else .imageLoad } :=
  passHeld_of_powerOn rfl rfl rfl

/-- Settles O50: each cause begins the sequence from `abandon`, a power-on cleared as well. -/
theorem restartCausesBeginSequence : Obligations.RestartCausesBeginSequence := by
  rintro s r rfl
  exact ⟨fun h => congrArg Host.Outcome.next (resetPinEvent_of_high h),
    fun h => congrArg Host.Outcome.next (resetPinEvent_of_low h),
    fun hcore hsupply => congrArg Host.Outcome.next (brownoutEvent_of_fall hcore hsupply),
    fun h => congrArg Host.Outcome.next (brownoutEvent_of_nothing h),
    congrArg Host.Outcome.next (powerOnEvent_eq s)⟩

/-! ### The end of RESET_HELD (R173, R174) -/

theorem warmCause_iff {c : RestartCause} : warmCause c = true ↔ c = .resetPin ∨ c = .brownout ∨ c = .request := by
  cases c <;> simp [warmCause]

theorem warmCause_eq_false {c : RestartCause} : warmCause c = false ↔ c = .powerOn ∨ c = .holdLost := by
  cases c <;> simp [warmCause]

theorem resetHeldEndEvent_of_held {l : HeldLevel} {s : State} (h : s.stage = .resetHeld) :
    resetHeldEndEvent l s = passHeld { s with pins := releaseLevel l s.pins } := if_pos h

theorem releaseLevel_holdSupply (l : HeldLevel) (p : Pins) : (releaseLevel l p).holdSupply = p.holdSupply := by
  cases l <;> rfl

/-- A passed hold check, over the tables it takes up. -/
theorem keepHold_eq {u : State} {h : HoldContents} {alarms : Vector AlarmRecord 640} {passes : Vector PassService 8}
    {lines : Vector Bool 8} {groups : Vector CaptureGroup 8} (hh : h = u.hold.contents)
    (halarms : ∀ i, alarms.get i = (h.alarms.get i).elim AlarmRecord.idleRecord restoredRecord)
    (hpasses : ∀ q, passes.get q = restoredPass (h.passes.get q))
    (hlines : ∀ q, lines.get q = passAlarmed alarms q)
    (hgroups : ∀ g, groups.get g = takeUp h.config g (u.groups.get g)) :
    keepHold u =
      { u with
        stage := .running, timebase := Timebase.restart, groups := groups
        active := { config := h.config, codes := h.codes, generation := h.generation, source := .hold }
        nextBoundary := BitVec.ofNat 32 h.config.globals.sweepPeriod
        passes := passes, alarms := alarms, hotList := (rankedCells alarms).take 16
        unlisted := (rankedCells alarms).length - 16, passAlert := lines
        hold := sealHold { h with source := .hold, lastCause := u.cause, warmCount := raiseCount h.warmCount }
        ports := { control := PortUnit.restarted, trip := PortUnit.restarted, service := PortUnit.restarted } } := by
  obtain rfl : restoredAlarms u.hold.contents.alarms = alarms :=
    table_ext _ _ fun i => by rw [restoredAlarms_get, halarms, hh]
  obtain rfl : u.hold.contents.passes.map restoredPass = passes :=
    table_ext _ _ fun q => by rw [get_map, hpasses, hh]
  obtain rfl : (Vector.ofFn fun q => passAlarmed (restoredAlarms u.hold.contents.alarms) q) = lines :=
    table_ext _ _ fun q => by rw [get_ofFn, hlines]
  obtain rfl : (Vector.ofFn fun g => takeUp u.hold.contents.config g (u.groups.get g)) = groups :=
    table_ext _ _ fun g => by rw [get_ofFn, hgroups, hh]
  subst hh
  simp only [keepHold, reachRunning, driveAlerts, rebuildHotList, hotListLimit, retain, writeHold]

/-- Settles O51: the levels first, then the cause, then the check. -/
theorem holdCheckDecidesWarm : Obligations.HoldCheckDecidesWarm := by
  rintro l s u hstage hu
  obtain hu : u = { s with pins := releaseLevel l s.pins } := hu.trans (by cases l <;> rfl)
  have hcause : u.cause = s.cause := by rw [hu]
  have hhold : u.hold = s.hold := by rw [hu]
  have hgroup : u.groups = s.groups := by rw [hu]
  have hsupply : u.pins.holdSupply = s.pins.holdSupply := by rw [hu]; exact releaseLevel_holdSupply l s.pins
  have hexec : exec (.resetHeldEnd l) s = .next (passHeld u) := by
    rw [hu]
    exact congrArg Host.Outcome.next (resetHeldEndEvent_of_held hstage)
  rw [hexec, ← hcause, ← hhold, ← hgroup, ← hsupply]
  refine ⟨fun hlow => congrArg Host.Outcome.next (passHeld_of_low hlow), fun hreset hcore => ?_⟩
  rw [passHeld_of_high hreset hcore]
  refine ⟨fun hcold => congrArg Host.Outcome.next (leaveHeld_of_cold (warmCause_eq_false.2 hcold)), ?_⟩
  rintro hwarm h rfl
  rw [leaveHeld_of_warm (warmCause_iff.2 hwarm)]
  refine ⟨fun hheld hcheck alarms passes lines groups halarms hpasses hlines hgroups => ?kept, fun hlost => ?lost⟩
  case kept =>
    rw [checkHold_of_passed (holdPasses_iff.2 ⟨hheld, hcheck⟩)]
    refine congrArg Host.Outcome.next (keepHold_eq rfl (fun i => (halarms i).trans ?_) hpasses
      (fun q => (hlines q).trans (passAlarmed_eq_any alarms q).symm) hgroups)
    cases u.hold.contents.alarms.get i <;> rfl
  case lost =>
    rw [checkHold_of_failed (holdPasses_eq_false.2 hlost)]
    rfl

end Sys2Proof.Proofs.Restarts

/-! PROOF. The body of an image: which bytes its forms fill, and which configuration they carry (R162, R175, R176). -/
namespace Sys2Proof.Proofs.Bodies
open Sys2Proof Sys2Proof.Machine Sys2Proof.Proofs.Forms Sys2Proof.Proofs.Commits

/-! ### One cell entry form (R176) -/

/-- A cell entry form of the widths that its source count and its marker give (R176). -/
def CellFormLike (i : Nat) (form : List Byte) : Prop :=
  ∃ (items : List (Byte × Byte × Byte)) (fallback : List Byte), items.length ≤ 255 ∧
    (fallback = [0#8] ∨ ∃ a b c d : Byte, fallback = [1#8, a, b, c, d]) ∧
    form = be16 i ++ byte1 items.length ++ items.flatMap (fun x => [x.1, x.2.1, x.2.2]) ++ fallback

theorem takeItems_bytes (items : List (Byte × Byte × Byte)) (rest : List Byte) :
    takeItems items.length (items.flatMap (fun x => [x.1, x.2.1, x.2.2]) ++ rest) =
      some (items.map fun x => { line := x.1.toNat, trim := readSigned16 x.2.1 x.2.2 }, rest) := by
  induction items with
  | nil => rfl
  | cons x items ih =>
    simp only [List.flatMap_cons, List.length_cons, List.cons_append, List.nil_append, takeItems, ih, List.map_cons]

theorem takeFallback_bytes {fallback : List Byte}
    (h : fallback = [0#8] ∨ ∃ a b c d : Byte, fallback = [1#8, a, b, c, d]) :
    ∃ f, ∀ rest, takeFallback (fallback ++ rest) = some (f, rest) := by
  obtain rfl | ⟨a, b, c, d, rfl⟩ := h
  · exact ⟨none, fun _ => rfl⟩
  · exact ⟨some { cell := read16 a b, offset := readSigned16 c d }, fun _ => rfl⟩

/-- Such a form reads as an entry, whatever follows it. -/
theorem takeCellForm_of_like {i : Nat} {form : List Byte} (hi : i < 65536) (h : CellFormLike i form) :
    ∃ e, ∀ rest, takeCellForm (form ++ rest) = some (i, e, rest) := by
  obtain ⟨items, fallback, hcount, hfallback, rfl⟩ := h
  obtain ⟨f, hf⟩ := takeFallback_bytes hfallback
  refine ⟨{ sources := items.map fun x => { line := x.1.toNat, trim := readSigned16 x.2.1 x.2.2 }, fallback := f },
    fun rest => ?_⟩
  have hshape : be16 i ++ byte1 items.length ++ items.flatMap (fun x => [x.1, x.2.1, x.2.2]) ++ fallback ++ rest =
      BitVec.ofNat 8 (i / 256) :: BitVec.ofNat 8 i :: BitVec.ofNat 8 items.length ::
        (items.flatMap (fun x => [x.1, x.2.1, x.2.2]) ++ (fallback ++ rest)) := by
    simp [be16, byte1]
  rw [hshape, takeCellForm, toNat_byte (by omega), takeItems_bytes]
  dsimp only
  rw [hf, read16_be16 hi]

/-- The form of an entry of at most 255 sources is such a form. -/
theorem cellFormLike_cellForm (i : Nat) {e : CellEntry} (h : e.sources.length ≤ 255) :
    CellFormLike i (cellForm i e) := by
  refine ⟨e.sources.map fun x => (BitVec.ofNat 8 x.line, BitVec.ofNat 8 (word16 x.trim / 256),
    BitVec.ofNat 8 (word16 x.trim)), fallbackForm e.fallback, by rwa [List.length_map], ?_, ?_⟩
  · cases e.fallback with
    | none => exact .inl rfl
    | some f => exact .inr ⟨_, _, _, _, rfl⟩
  · simp only [List.length_map, List.flatMap_map, cellForm, List.append_assoc]
    rfl

/-! ### Forms in index order (R175, R176) -/

theorem takeForms_of_forms {form : Nat → List Byte} {entry : Nat → CellEntry} (n : Nat) :
    ∀ position tail, (∀ i, position ≤ i → i < position + n → ∀ rest,
        takeCellForm (form i ++ rest) = some (i, entry i, rest)) →
      takeForms n position ((List.range' position n).flatMap form ++ tail) =
        some ((List.range' position n).map entry, tail) := by
  induction n with
  | zero => exact fun _ _ _ => rfl
  | succ n ih =>
    intro position tail hform
    have hrest := ih (position + 1) tail fun i hlo hhi => hform i (by omega) (by omega)
    rw [List.range'_succ, List.flatMap_cons, List.append_assoc, takeForms,
      hform position (Nat.le_refl _) (by omega)]
    simp only [if_true, hrest, List.map_cons]

/-- Entries by index with one of them set. -/
def withEntry (i : Nat) (e : CellEntry) (entry : Nat → CellEntry) (j : Nat) : CellEntry := if j = i then e else entry j

theorem withEntry_self (i : Nat) (e : CellEntry) (entry : Nat → CellEntry) : withEntry i e entry i = e := if_pos rfl

theorem withEntry_of_ne {i j : Nat} (e : CellEntry) (entry : Nat → CellEntry) (h : j ≠ i) :
    withEntry i e entry j = entry j := if_neg h

theorem forms_of_takeForms (n : Nat) : ∀ position bytes entries tail,
    takeForms n position bytes = some (entries, tail) →
      ∃ entry : Nat → CellEntry, entries = (List.range' position n).map entry ∧ (∀ i, (entry i).sources.length ≤ 255) ∧
        bytes = (List.range' position n).flatMap (fun i => cellForm i (entry i)) ++ tail := by
  induction n with
  | zero =>
    intro position bytes entries tail h
    cases h
    exact ⟨fun _ => emptyEntry, rfl, fun _ => Nat.zero_le _, rfl⟩
  | succ n ih =>
    intro position bytes entries tail h
    rw [takeForms] at h
    split at h
    · cases h
    · next i e rest hcell =>
      split at h
      · next hi =>
        split at h
        · next es rest' htail =>
          cases h
          subst hi
          obtain ⟨hbytes, hcount⟩ := cellForm_of_takeCellForm hcell
          obtain ⟨entry, hentries, hcounts, hrest⟩ := ih _ _ _ _ htail
          have hother : ∀ j ∈ List.range' (i + 1) n, withEntry i e entry j = entry j := fun j hj =>
            withEntry_of_ne e entry (by have := (List.mem_range'_1.1 hj).1; omega)
          refine ⟨withEntry i e entry, ?_, fun j => ?_, ?_⟩
          · rw [List.range'_succ, List.map_cons, withEntry_self, List.map_congr_left hother, hentries]
          · by_cases hj : j = i
            · rw [hj, withEntry_self]; exact hcount
            · rw [withEntry_of_ne e entry hj]; exact hcounts j
          · have hforms : (List.range' (i + 1) n).flatMap (fun j => cellForm j (withEntry i e entry j)) =
                (List.range' (i + 1) n).flatMap fun j => cellForm j (entry j) := by
              rw [List.flatMap_def, List.flatMap_def, List.map_congr_left fun j hj => by rw [hother j hj]]
            rw [List.range'_succ, List.flatMap_cons, withEntry_self, hforms, List.append_assoc, ← hrest, hbytes]
        · cases h
      · cases h

theorem map_val_finRange (n : Nat) : (List.finRange n).map (fun i => i.1) = List.range n :=
  List.ext_getElem (by simp) fun k h1 h2 => by simp

theorem flatMap_finRange {α : Type} (n : Nat) (f : Nat → List α) :
    (List.finRange n).flatMap (fun i => f i.1) = (List.range' 0 n).flatMap f := by
  rw [← List.range_eq_range', ← map_val_finRange, List.flatMap_map]

theorem map_finRange {α : Type} (n : Nat) (f : Nat → α) :
    (List.finRange n).map (fun i => f i.1) = (List.range' 0 n).map f := by
  rw [← List.range_eq_range', ← map_val_finRange, List.map_map]
  rfl

/-! ### The body form by form (R176) -/

/-- A body of 128 line records, forms that read as these entries, and 155 bytes, parsed. -/
theorem parseBody_of_forms {lines tail : List Byte} {form : CellIx → List Byte} {entry : CellIx → CellEntry}
    (hlines : lines.length = 640) (htail : tail.length = 155)
    (hform : ∀ i rest, takeCellForm (form i ++ rest) = some (i.1, entry i, rest)) :
    parseBody (lines ++ (List.finRange 640).flatMap form ++ tail) =
      some { lines := lines, entries := (List.finRange 640).map entry, tail := tail } := by
  have hforms := flatMap_finRange 640 fun i => if h : i < 640 then form ⟨i, h⟩ else []
  have hentries := map_finRange 640 fun i => if h : i < 640 then entry ⟨i, h⟩ else emptyEntry
  simp only [Fin.is_lt, dif_pos, Fin.eta] at hforms hentries
  have htake := takeForms_of_forms (form := fun i => if h : i < 640 then form ⟨i, h⟩ else [])
    (entry := fun i => if h : i < 640 then entry ⟨i, h⟩ else emptyEntry) 640 0 tail fun i _ hi rest => by
      have hi' : i < 640 := by omega
      simp only [dif_pos hi']
      exact hform ⟨i, hi'⟩ rest
  rw [← hforms, ← hentries] at htake
  rw [parseBody, lineBytes, List.append_assoc, List.drop_left' hlines, List.take_left' hlines, htake]
  exact if_pos htail

/-- What a parsed body is made of. -/
theorem forms_of_parseBody {body : List Byte} {b : ParsedBody} (h : parseBody body = some b) :
    ∃ entry : Nat → CellEntry, b.lines.length = 640 ∧ b.tail.length = 155 ∧
      b.entries = (List.finRange 640).map (fun i => entry i.1) ∧ (∀ i, (entry i).sources.length ≤ 255) ∧
      body = b.lines ++ (List.finRange 640).flatMap (fun i => cellForm i.1 (entry i.1)) ++ b.tail := by
  unfold parseBody lineBytes tailBytes at h
  split at h
  · cases h
  · next entries tail htake =>
    split at h
    · next htail =>
      cases h
      obtain ⟨entry, hentries, hcounts, hbytes⟩ := forms_of_takeForms _ _ _ _ _ htake
      have hlong : 640 ≤ body.length := by
        have hlen := congrArg List.length hbytes
        rw [List.length_drop, List.length_append, htail] at hlen
        omega
      refine ⟨entry, by rw [List.length_take]; omega, htail, hentries.trans (map_finRange 640 entry).symm, hcounts, ?_⟩
      rw [flatMap_finRange 640 fun i => cellForm i (entry i), List.append_assoc, ← hbytes, List.take_append_drop]
    · cases h

/-- The forms of R175 fill a body exactly when it parses. -/
theorem formsFill_iff {body : List Byte} : FormsFill body ↔ ∃ b, parseBody body = some b := by
  constructor
  · rintro ⟨lines, tail, form, hlines, htail, hform, rfl⟩
    have hread : ∀ i : CellIx, ∃ e, ∀ rest, takeCellForm (form i ++ rest) = some (i.1, e, rest) := fun i =>
      takeCellForm_of_like (by have := i.2; omega) (hform i)
    obtain ⟨entry, hentry⟩ := Classical.skolem.1 hread
    exact ⟨_, parseBody_of_forms hlines htail hentry⟩
  · rintro ⟨b, hb⟩
    obtain ⟨entry, hlines, htail, _, hcounts, hbody⟩ := forms_of_parseBody hb
    exact ⟨b.lines, b.tail, fun i => cellForm i.1 (entry i.1), hlines, htail,
      fun i => cellFormLike_cellForm i.1 (hcounts i.1), hbody⟩

/-! ### Records of one size -/

theorem readRecords_flatMap {α : Type} {size : Nat} {read : List Byte → Option α} {form : α → List Byte} {xs : List α}
    (hsize : ∀ x ∈ xs, (form x).length = size) (hread : ∀ x ∈ xs, read (form x) = some x) (rest : List Byte) :
    readRecords size read xs.length (xs.flatMap form ++ rest) = some xs := by
  induction xs with
  | nil => rfl
  | cons x xs ih =>
    have htail := ih (fun y hy => hsize y (List.mem_cons_of_mem x hy)) fun y hy => hread y (List.mem_cons_of_mem x hy)
    have hx := hsize x List.mem_cons_self
    rw [List.flatMap_cons, List.length_cons, List.append_assoc, readRecords, ← hx, List.take_left, List.drop_left, hx,
      hread x List.mem_cons_self, htail]

theorem flatMap_of_readRecords {α : Type} {size : Nat} {read : List Byte → Option α} {form : α → List Byte}
    (hread : ∀ bytes x, read bytes = some x → bytes = form x) (n : Nat) : ∀ bytes xs,
    readRecords size read n bytes = some xs → bytes = xs.flatMap form ++ bytes.drop (n * size) := by
  induction n with
  | zero =>
    intro bytes xs h
    cases h
    simp
  | succ n ih =>
    intro bytes xs h
    rw [readRecords] at h
    split at h
    · next x xs' hx hxs =>
      cases h
      have hrest := ih _ _ hxs
      rw [List.drop_drop, show size + n * size = (n + 1) * size by rw [Nat.succ_mul]; omega] at hrest
      rw [List.flatMap_cons, ← hread _ _ hx, List.append_assoc, ← hrest, List.take_append_drop]
    · cases h

/-! ### The configuration of a body (R175, R176) -/

theorem length_flatMap_const {α β : Type} {form : α → List β} {size : Nat} (h : ∀ x, (form x).length = size)
    (xs : List α) : (xs.flatMap form).length = xs.length * size := by
  simp only [List.length_flatMap, h, List.map_const', List.sum_replicate_nat]

theorem length_lineForm (r : LineRecord) : (lineForm r).length = 5 := rfl

theorem length_passForm (r : PassRecord) : (passForm r).length = 14 := rfl

theorem length_globalForm (r : GlobalRecord) : (globalForm r).length = 43 := by
  have hsettings : (r.groups.toList.flatMap settingsForm).length = 24 := by
    rw [length_flatMap_const (size := 3) (fun _ => rfl), Vector.length_toList]
  simp [globalForm, hsettings, be16, be32, byte1]

theorem length_lineForms (c : Configuration) : (c.lines.toList.flatMap lineForm).length = 640 := by
  rw [length_flatMap_const length_lineForm, Vector.length_toList]

theorem length_tail (c : Configuration) :
    (c.passes.toList.flatMap passForm ++ globalForm c.globals).length = 155 := by
  rw [List.length_append, length_flatMap_const length_passForm, Vector.length_toList, length_globalForm]

/-- Each record of the configuration lies within its ranges. -/
structure InRange (c : Configuration) : Prop where
  lines : ∀ l, lineInRange (c.lines.get l) = true
  cells : ∀ i, cellInRange (c.cells.get i) = true
  passes : ∀ q, passInRange (c.passes.get q) = true
  globals : globalInRange c.globals = true

theorem inRange_of_checked {c : Configuration} (h : checkConfiguration c = none) : InRange c := by
  rw [checkConfiguration_eq, List.findSome?_eq_none_iff] at h
  have hcells : ∀ i, cellStep c i = none := fun i => h _ (List.mem_cons_of_mem _ (List.mem_append_left _
    (List.mem_append_right _ (List.mem_map_of_mem (List.mem_finRange i)))))
  have hlines : ∀ l, lineStep c l = none := fun l => h _ (List.mem_cons_of_mem _ (List.mem_append_right _
    (List.mem_map_of_mem (List.mem_finRange l))))
  have hpasses : ∀ q, passStep c q = none := fun q => h _ (List.mem_cons_of_mem _ (List.mem_append_left _
    (List.mem_append_left _ (List.mem_map_of_mem (List.mem_finRange q)))))
  have hglobal : globalStep c = none := h _ List.mem_cons_self
  refine ⟨fun l => ?_, fun i => ?_, fun q => ?_, ?_⟩
  · refine Decidable.byContradiction fun hbad => ?_
    have hstep := hlines l
    rw [lineStep_eq, if_pos hbad] at hstep
    cases hstep
  · refine Decidable.byContradiction fun hbad => ?_
    have hstep := hcells i
    rw [cellStep_of_range (Bool.eq_false_iff.2 hbad)] at hstep
    cases hstep
  · refine Decidable.byContradiction fun hbad => ?_
    have hstep := hpasses q
    simp [passStep, Bool.eq_false_iff.2 hbad] at hstep
  · refine Decidable.byContradiction fun hbad => ?_
    rw [globalStep_eq, if_neg hbad] at hglobal
    cases hglobal

/-- The parts of a configuration's body. -/
def partsOf (c : Configuration) : ParsedBody :=
  { lines := c.lines.toList.flatMap lineForm, entries := (List.finRange 640).map fun i => c.cells.get i
    tail := c.passes.toList.flatMap passForm ++ globalForm c.globals }

theorem parseBody_bodyForm {c : Configuration} (h : InRange c) : parseBody (bodyForm c) = some (partsOf c) := by
  rw [bodyForm, List.append_assoc _ (c.passes.toList.flatMap passForm)]
  exact parseBody_of_forms (length_lineForms c) (length_tail c) fun i rest => takeCellForm_cellForm rest (h.cells i)

theorem map_get_finRange {α : Type} {n : Nat} (v : Vector α n) : (List.finRange n).map (fun i => v.get i) = v.toList := by
  apply List.ext_getElem
  · simp
  · intro k h1 h2
    simp [table_get]

theorem mem_toList {α : Type} {n : Nat} {v : Vector α n} {x : α} (h : x ∈ v.toList) : ∃ i, v.get i = x := by
  rw [← map_get_finRange, List.mem_map] at h
  obtain ⟨i, _, hi⟩ := h
  exact ⟨i, hi⟩

theorem readRecords_toList {α : Type} {size n : Nat} {read : List Byte → Option α} {form : α → List Byte}
    {v : Vector α n} (hsize : ∀ x, (form x).length = size) (hread : ∀ i, read (form (v.get i)) = some (v.get i))
    (rest : List Byte) : (readRecords size read n (v.toList.flatMap form ++ rest)).bind (toVector? n) = some v := by
  have hrecords := readRecords_flatMap (xs := v.toList) (read := read) (fun x _ => hsize x)
    (fun x hx => by obtain ⟨i, rfl⟩ := mem_toList hx; exact hread i) rest
  rw [Vector.length_toList] at hrecords
  rw [hrecords, Option.bind_some, toVector?_toList]

/-- The body of a configuration within its ranges reads back. -/
theorem decodeBody_partsOf {c : Configuration} (h : InRange c) : decodeBody (partsOf c) = some c := by
  have hlines := readRecords_toList (v := c.lines) length_lineForm (fun l => readLine_lineForm (h.lines l)) []
  have hpasses := readRecords_toList (v := c.passes) length_passForm (fun q => readPass_passForm (h.passes q))
    (globalForm c.globals)
  have hcells : toVector? 640 (partsOf c).entries = some c.cells := by
    rw [partsOf, map_get_finRange, toVector?_toList]
  have hdrop : (partsOf c).tail.drop 112 = globalForm c.globals := by
    have hlen : (c.passes.toList.flatMap passForm).length = 112 := by
      rw [length_flatMap_const length_passForm, Vector.length_toList]
    rw [partsOf, ← hlen, List.drop_left]
  rw [List.append_nil] at hlines
  have hlines' : (readRecords 5 readLine 128 (partsOf c).lines).bind (toVector? 128) = some c.lines := hlines
  have hpasses' : (readRecords 14 readPass 8 (partsOf c).tail).bind (toVector? 8) = some c.passes := hpasses
  rw [decodeBody, hlines', hcells, hpasses', hdrop, readGlobal_globalForm h.globals]

/-- A body that reads as a configuration is that configuration's. -/
theorem bodyForm_of_decodeBody {body : List Byte} {b : ParsedBody} {c : Configuration} (hb : parseBody body = some b)
    (hc : decodeBody b = some c) : body = bodyForm c := by
  obtain ⟨entry, hlines, htail, hentries, _, hbody⟩ := forms_of_parseBody hb
  unfold decodeBody at hc
  split at hc
  · next lines cells passes globals hl he hp hg =>
    cases hc
    obtain ⟨ls, hls, hl⟩ := Option.bind_eq_some_iff.1 hl
    obtain ⟨ps, hps, hp⟩ := Option.bind_eq_some_iff.1 hp
    have hlineForms := flatMap_of_readRecords (fun _ _ => lineForm_of_readLine) _ _ _ hls
    have hpassForms := flatMap_of_readRecords (fun _ _ => passForm_of_readPass) _ _ _ hps
    rw [List.drop_eq_nil_of_le (by omega), List.append_nil, ← toList_of_toVector? hl] at hlineForms
    rw [globalForm_of_readGlobal hg, ← toList_of_toVector? hp] at hpassForms
    have hcells : (List.finRange 640).map (fun i => entry i.1) = (List.finRange 640).map fun i => cells.get i := by
      rw [← hentries, map_get_finRange, toList_of_toVector? he]
    have hget : ∀ i : CellIx, entry i.1 = cells.get i := fun i =>
      List.map_inj_left.1 hcells i (List.mem_finRange i)
    simp only [hget] at hbody
    rw [hbody, hlineForms, hpassForms, bodyForm]
    simp only [List.append_assoc]
  · cases hc

end Sys2Proof.Proofs.Bodies

/-! PROOF. What a region loads as, what an image load leaves, and the image that a store writes (R173, R175 to R177). -/
namespace Sys2Proof.Proofs.Images
open Sys2Proof Sys2Proof.Machine Sys2Proof.Proofs.Forms Sys2Proof.Proofs.Commits Sys2Proof.Proofs.StoreAndRestart
open Sys2Proof.Proofs.Bodies

/-! ### The header (R175, R176) -/

theorem headerGood_iff {m : Memory} :
    headerGood m = true ↔ readBytes m 0 4 = imageMarker ∧ readBytes m 4 2 = imageFormat ∧
      3355 ≤ imageLength m ∧ imageLength m ≤ 11675 ∧
      be32 (crc32 (readBytes m 0 (10 + imageLength m))).toNat = readBytes m (10 + imageLength m) 4 :=
  decide_eq_true_iff

theorem readImage_of_bad {m : Memory} (h : headerGood m = false) : readImage m = .check := by
  simp [readImage, h]

theorem readImage_of_good {m : Memory} (h : headerGood m = true) :
    readImage m = (parseBody (readBytes m 10 (imageLength m))).elim .check (judgeBody m) := by
  simp only [readImage, h, if_true]
  cases parseBody (readBytes m 10 (imageLength m)) <;> rfl

theorem imageGeneration_toNat (m : Memory) :
    (imageGeneration m).toNat = (readByte m 8).toNat * 256 + (readByte m 9).toNat := by
  have hlt := read16_lt (readByte m 8) (readByte m 9)
  rw [imageGeneration, BitVec.toNat_ofNat]
  exact Nat.mod_eq_of_lt hlt

/-! ### The judgement of a body (R176) -/

theorem judgeBody_of_undecoded {m : Memory} {b : ParsedBody} (h : decodeBody b = none) : judgeBody m b = .invalid := by
  simp only [judgeBody, h]

theorem judgeBody_of_failed {m : Memory} {b : ParsedBody} {c : Configuration} (h : decodeBody b = some c)
    (hc : checkConfiguration c ≠ none) : judgeBody m b = .invalid := by
  obtain ⟨r, hr⟩ := Option.ne_none_iff_exists'.1 hc
  simp only [judgeBody, h, hr]

theorem judgeBody_of_passed {m : Memory} {b : ParsedBody} {c : Configuration} (h : decodeBody b = some c)
    (hc : checkConfiguration c = none) : judgeBody m b = .good c (imageGeneration m) := by
  simp only [judgeBody, h, hc]

/-- A region that loads has passed the checks. -/
theorem checked_of_readImage {m : Memory} {c : Configuration} {g : Half} (h : readImage m = .good c g) :
    checkConfiguration c = none ∧ g = imageGeneration m := by
  cases hgood : headerGood m with
  | false => rw [readImage_of_bad hgood] at h; cases h
  | true =>
    rw [readImage_of_good hgood] at h
    cases hb : parseBody (readBytes m 10 (imageLength m)) with
    | none => rw [hb] at h; cases h
    | some b =>
      rw [hb, Option.elim] at h
      cases hc : decodeBody b with
      | none => rw [judgeBody_of_undecoded hc] at h; cases h
      | some c' =>
        by_cases hpassed : checkConfiguration c' = none
        · rw [judgeBody_of_passed hc hpassed] at h
          cases h
          exact ⟨hpassed, rfl⟩
        · rw [judgeBody_of_failed hc hpassed] at h; cases h

theorem readImage_of_unfilled {m : Memory} (hgood : headerGood m = true)
    (h : ¬ FormsFill (readBytes m 10 (imageLength m))) : readImage m = .check := by
  have hnone : parseBody (readBytes m 10 (imageLength m)) = none := by
    cases hb : parseBody (readBytes m 10 (imageLength m)) with
    | none => rfl
    | some b => exact absurd (formsFill_iff.2 ⟨b, hb⟩) h
  rw [readImage_of_good hgood, hnone]
  rfl

theorem readImage_of_bodyForm {m : Memory} {c : Configuration} (hgood : headerGood m = true)
    (hc : checkConfiguration c = none) (hbody : readBytes m 10 (imageLength m) = bodyForm c) :
    readImage m = .good c (imageGeneration m) := by
  have hrange := inRange_of_checked hc
  rw [readImage_of_good hgood, hbody, parseBody_bodyForm hrange]
  exact judgeBody_of_passed (decodeBody_partsOf hrange) hc

theorem readImage_of_no_configuration {m : Memory} (hgood : headerGood m = true)
    (hfill : FormsFill (readBytes m 10 (imageLength m)))
    (hnone : ∀ c, checkConfiguration c = none → readBytes m 10 (imageLength m) ≠ bodyForm c) :
    readImage m = .invalid := by
  obtain ⟨b, hb⟩ := formsFill_iff.1 hfill
  rw [readImage_of_good hgood, hb, Option.elim]
  cases hc : decodeBody b with
  | none => exact judgeBody_of_undecoded hc
  | some c => exact judgeBody_of_failed hc fun hpassed => hnone c hpassed (bodyForm_of_decodeBody hb hc)

/-! ### The image load (R173, R176) -/

/-- Outside RUNNING a load's fault touches the fault bank alone. -/
theorem reportLoad_eq {o : LoadOutcome} {s : State} (hstage : s.stage ≠ .running) :
    reportLoad o s = { s with
      faults := (loadFault o).elim s.faults fun k => (handFault .store k .none s).faults } := by
  unfold reportLoad
  split
  · next hnone => rw [hnone]; rfl
  · next k hk =>
    have hquiet : ¬((s.faults.get (sourceIx .store)).count = 0 ∧ s.running = true) := fun h =>
      hstage (of_decide_eq_true h.2)
    rw [hk, Option.elim, handFault_faults, handFault, if_neg hquiet]

theorem loadedConfig_good (c : Configuration) (n : Half) :
    loadedConfig (.good c n) = { config := c, codes := checkCodes c, generation := n, source := .image } := rfl

/-- The configuration that an outcome leaves, told from its parts. -/
theorem loadedConfig_eq {o : LoadOutcome} {a : ActiveConfig} (hconfig : (loadedConfig o).config = a.config)
    (hgeneration : (loadedConfig o).generation = a.generation) (hsource : (loadedConfig o).source = a.source)
    (hcodes : ∀ i, a.codes.get i = checkCode i.1 (a.config.cells.get i)) : loadedConfig o = a := by
  obtain ⟨config, codes, generation, source⟩ := a
  have hfresh : (loadedConfig o).codes = checkCodes (loadedConfig o).config := by cases o <;> rfl
  have hsame : (loadedConfig o).codes = codes := table_ext _ _ fun i => by
    rw [hfresh, checkCodes, get_ofFn, hcodes, hconfig]
  rw [← hsame, ← (show (loadedConfig o).config = config from hconfig),
    ← (show (loadedConfig o).generation = generation from hgeneration),
    ← (show (loadedConfig o).source = source from hsource)]

theorem loadOutcome_of_strap {s : State} (h : s.strap = true) : loadOutcome s.strap s.flash = .noFlash := if_pos h

theorem loadOutcome_of_absent {s : State} (h : s.strap = false) (hpart : s.flash.ident ≠ .part) :
    loadOutcome s.strap s.flash = .absent := by
  simp [loadOutcome, h, flashPresent, hpart]

theorem loadOutcome_of_part {s : State} (h : s.strap = false) (hpart : s.flash.ident = .part) :
    loadOutcome s.strap s.flash = readImage s.flash.region := by
  simp [loadOutcome, h, flashPresent, hpart]

theorem imageLoadEvent_of_stage {s : State} (h : s.stage = .imageLoad) :
    imageLoadEvent s = reachRunning (reportLoad (loadOutcome s.strap s.flash)
      { s with active := loadedConfig (loadOutcome s.strap s.flash), passes := Vector.replicate 8 PassService.online
               hold := sealHold (coldHold s.cause (loadedConfig (loadOutcome s.strap s.flash))) }) := if_pos h

/-- The end of an image load, over the configuration it leaves and the fault it hands. -/
theorem imageLoadEvent_eq {s : State} {a : ActiveConfig} {fault : Option FaultKind} (hstage : s.stage = .imageLoad)
    (ha : loadedConfig (loadOutcome s.strap s.flash) = a) (hfault : loadFault (loadOutcome s.strap s.flash) = fault) :
    imageLoadEvent s =
      { s with
        active := a, passes := Vector.replicate 8 PassService.online, hold := sealHold (coldHold s.cause a)
        stage := .running, timebase := Timebase.restart
        groups := (Vector.ofFn fun g => takeUp a.config g (s.groups.get g))
        passAlert := (Vector.ofFn fun q => passAlarmed s.alarms q)
        nextBoundary := BitVec.ofNat 32 a.config.globals.sweepPeriod
        faults := fault.elim s.faults fun k => (handFault .store k .none s).faults
        ports := { control := PortUnit.restarted, trip := PortUnit.restarted, service := PortUnit.restarted } } := by
  rw [imageLoadEvent_of_stage hstage, reportLoad_eq (by rw [hstage]; decide), ha, hfault]
  simp only [handFault_faults]
  rfl

/-- Settles O52: the load by its outcome, the header's tests, and the body by its forms and its configuration. -/
theorem imageLoadOutcome : Obligations.ImageLoadOutcome := by
  refine ⟨?load, fun m => ⟨?bad, ?checked⟩, ?body, fun h => rfl⟩
  case load =>
    rintro s u a fault hstage hcodes hcase rfl
    have houtcome : loadedConfig (loadOutcome s.strap s.flash) = a ∧
        loadFault (loadOutcome s.strap s.flash) = fault := by
      obtain ⟨hcause, hconfig, hgeneration, hsource⟩ | ⟨hstrap, hpart, hfault, hgood, hsource⟩ := hcase
      · have hempty : loadedConfig (loadOutcome s.strap s.flash) =
              { config := emptyConfiguration, codes := checkCodes emptyConfiguration, generation := 0#16
                source := .empty } ∧ loadFault (loadOutcome s.strap s.flash) = fault := by
          obtain ⟨hstrap, hfault⟩ | ⟨hstrap, habsent, hfault⟩ | ⟨hstrap, hpart, ⟨hcheck, hfault⟩ | ⟨hinvalid, hfault⟩⟩ :=
            hcause
          · rw [loadOutcome_of_strap hstrap]; exact ⟨rfl, hfault.symm⟩
          · rw [loadOutcome_of_absent hstrap habsent]; exact ⟨rfl, hfault.symm⟩
          · rw [loadOutcome_of_part hstrap hpart, hcheck]; exact ⟨rfl, hfault.symm⟩
          · rw [loadOutcome_of_part hstrap hpart, hinvalid]; exact ⟨rfl, hfault.symm⟩
        refine ⟨loadedConfig_eq ?_ ?_ ?_ hcodes, hempty.2⟩
        · rw [hempty.1, hconfig]
        · rw [hempty.1, hgeneration]
        · rw [hempty.1, hsource]
      · rw [loadOutcome_of_part hstrap hpart, hgood]
        refine ⟨loadedConfig_eq ?_ ?_ ?_ hcodes, hfault.symm⟩
        · rw [loadedConfig_good]
        · rw [loadedConfig_good]
        · rw [loadedConfig_good, hsource]
    refine ⟨_, congrArg Host.Outcome.next (imageLoadEvent_eq hstage houtcome.1 houtcome.2), ?_,
      fun g => get_ofFn _ g, fun q => get_ofFn _ q⟩
    cases fault <;> rfl
  case bad =>
    intro hbad
    refine readImage_of_bad (Bool.eq_false_iff.2 fun hgood => ?_)
    obtain ⟨hmarker, hformat, hlow, hhigh, hcrc⟩ := headerGood_iff.1 hgood
    obtain hmarker' | hformat' | ⟨n, rfl, hlow' | hhigh' | hcrc'⟩ := hbad
    · exact hmarker' hmarker
    · exact hformat' hformat
    · exact Nat.not_lt.2 hlow hlow'
    · exact Nat.not_lt.2 hhigh hhigh'
    · exact hcrc' hcrc
  case checked =>
    intro c g h
    obtain ⟨hchecked, rfl⟩ := checked_of_readImage h
    exact ⟨hchecked, imageGeneration_toNat m⟩
  case body =>
    rintro m n body bodyOf hmarker hformat rfl hlow hhigh hcrc rfl hbodyOf
    have hgood : headerGood m = true := headerGood_iff.2 ⟨hmarker, hformat, hlow, hhigh, hcrc⟩
    obtain rfl : bodyOf = bodyForm := funext hbodyOf
    exact ⟨readImage_of_unfilled hgood, fun c hc hbody => readImage_of_bodyForm hgood hc hbody,
      readImage_of_no_configuration hgood⟩

end Sys2Proof.Proofs.Images

/-! PROOF. The image that a store writes loads as what it was made from (R175 to R177). -/
namespace Sys2Proof.Proofs.StoredImages
open Sys2Proof Sys2Proof.Machine Sys2Proof.Proofs.Forms Sys2Proof.Proofs.Commits Sys2Proof.Proofs.StoreAndRestart
open Sys2Proof.Proofs.Bodies Sys2Proof.Proofs.Images

/-! ### The length of a body (R175) -/

theorem length_sourceForm (x : SourceItem) : (sourceForm x).length = 3 := rfl

theorem length_fallbackForm (fallback : Option Fallback) :
    1 ≤ (fallbackForm fallback).length ∧ (fallbackForm fallback).length ≤ 5 := by
  cases fallback with
  | none => exact ⟨Nat.le_refl 1, by decide⟩
  | some f => exact ⟨by simp [fallbackForm], Nat.le_refl 5⟩

theorem length_cellForm {i : Nat} {e : CellEntry} (h : cellInRange e = true) :
    4 ≤ (cellForm i e).length ∧ (cellForm i e).length ≤ 17 := by
  have hcount : e.sources.length ≤ 3 := (cellInRange_iff.1 h).1
  obtain ⟨hshort, hlong⟩ := length_fallbackForm e.fallback
  have hlen : (cellForm i e).length = 3 + e.sources.length * 3 + (fallbackForm e.fallback).length := by
    simp only [cellForm, List.length_append, List.length_cons, length_flatMap_const length_sourceForm, be16,
      List.length_nil]
    omega
  omega

theorem sum_map_bounds {α : Type} {f : α → Nat} {lo hi : Nat} (h : ∀ x, lo ≤ f x ∧ f x ≤ hi) (xs : List α) :
    xs.length * lo ≤ (xs.map f).sum ∧ (xs.map f).sum ≤ xs.length * hi := by
  induction xs with
  | nil => simp
  | cons x xs ih =>
    have hx := h x
    simp only [List.map_cons, List.sum_cons, List.length_cons, Nat.succ_mul]
    omega

theorem length_bodyForm {c : Configuration} (h : InRange c) :
    3355 ≤ (bodyForm c).length ∧ (bodyForm c).length ≤ 11675 := by
  have hforms : 640 * 4 ≤ ((List.finRange 640).map fun i => (cellForm i.1 (c.cells.get i)).length).sum ∧
      ((List.finRange 640).map fun i => (cellForm i.1 (c.cells.get i)).length).sum ≤ 640 * 17 := by
    simpa only [List.length_finRange] using sum_map_bounds (fun i => length_cellForm (h.cells i)) (List.finRange 640)
  have hlen : (bodyForm c).length =
      640 + ((List.finRange 640).map fun i => (cellForm i.1 (c.cells.get i)).length).sum + 155 := by
    rw [bodyForm, List.append_assoc _ (c.passes.toList.flatMap passForm), List.length_append, List.length_append,
      length_lineForms, length_tail, List.length_flatMap]
  omega

/-! ### A region that holds an image (R175) -/

/-- The region reads as these bytes from its start on. -/
def Holds (m : Memory) (bytes : List Byte) : Prop :=
  ∀ k, k < bytes.length → bytes[k]? = some (readByte m k)

theorem Holds.readBytes {m : Memory} {bytes : List Byte} (h : Holds m bytes) {a n : Nat} (hn : a + n ≤ bytes.length) :
    readBytes m a n = (bytes.drop a).take n := by
  have hlen : ((bytes.drop a).take n).length = n := by rw [List.length_take, List.length_drop]; omega
  have hall := (readBytes_eq_iff (m := m) (a := a) (bytes := (bytes.drop a).take n)).2 fun k hk => by
    rw [hlen] at hk
    rw [List.getElem?_take_of_lt hk, List.getElem?_drop]
    exact h (a + k) (by omega)
  rwa [hlen] at hall

/-- The bytes of an image, header byte by header byte. -/
theorem imageBytes_eq (c : Configuration) (g : Half) :
    imageBytes c g = imageMarker ++ (imageFormat ++ (be16 (bodyForm c).length ++ (be16 g.toNat ++ (bodyForm c ++
      be32 (crc32 (imageHeader (bodyForm c).length g ++ bodyForm c)).toNat)))) := by
  simp only [imageBytes, imageHeader, List.append_assoc]

theorem length_imageBytes (c : Configuration) (g : Half) : (imageBytes c g).length = (bodyForm c).length + 14 := by
  rw [imageBytes_eq]
  simp only [List.length_append, imageMarker, imageFormat, be16, be32, List.length_cons, List.length_nil]
  omega

theorem read16_of_readBytes {m : Memory} {a n : Nat} (hn : n < 65536) (h : readBytes m a 2 = be16 n) :
    read16 (readByte m a) (readByte m (a + 1)) = n := by
  have hbytes : [readByte m a, readByte m (a + 1)] = be16 n := h
  obtain ⟨hhi, hlo⟩ := List.cons.inj hbytes
  rw [hhi, (List.cons.inj hlo).1, read16_be16 hn]

/-- A region that holds an image of a checked configuration loads it. -/
theorem readImage_of_holds {m : Memory} {c : Configuration} {g : Half} (hc : checkConfiguration c = none)
    (hm : Holds m (imageBytes c g)) : readImage m = .good c g := by
  obtain ⟨hlow, hhigh⟩ := length_bodyForm (inRange_of_checked hc)
  have hlen := length_imageBytes c g
  have hg := g.isLt
  have hcovered : imageBytes c g = (imageHeader (bodyForm c).length g ++ bodyForm c) ++
      be32 (crc32 (imageHeader (bodyForm c).length g ++ bodyForm c)).toNat := rfl
  have hcover : (imageHeader (bodyForm c).length g ++ bodyForm c).length = 10 + (bodyForm c).length := by
    simp only [imageHeader, List.length_append, imageMarker, imageFormat, be16, List.length_cons, List.length_nil]
  have hlength : imageLength m = (bodyForm c).length := by
    refine read16_of_readBytes (by omega) ?_
    rw [hm.readBytes (by omega), imageBytes_eq]
    rfl
  have hgeneration : imageGeneration m = g := by
    have hread : read16 (readByte m 8) (readByte m 9) = g.toNat := by
      refine read16_of_readBytes hg ?_
      rw [hm.readBytes (by omega), imageBytes_eq]
      rfl
    rw [imageGeneration, hread, BitVec.ofNat_toNat, BitVec.setWidth_eq]
  have hmarker : readBytes m 0 4 = imageMarker := by
    rw [hm.readBytes (by omega), imageBytes_eq]
    rfl
  have hformat : readBytes m 4 2 = imageFormat := by
    rw [hm.readBytes (by omega), imageBytes_eq]
    rfl
  have hbefore : readBytes m 0 (10 + (bodyForm c).length) = imageHeader (bodyForm c).length g ++ bodyForm c := by
    rw [hm.readBytes (by omega), hcovered, List.drop_zero, List.take_left' hcover]
  have hcrc : readBytes m (10 + (bodyForm c).length) 4 =
      be32 (crc32 (imageHeader (bodyForm c).length g ++ bodyForm c)).toNat := by
    rw [hm.readBytes (by omega), hcovered, List.drop_left' hcover]
    rfl
  have hbody : readBytes m 10 (bodyForm c).length = bodyForm c := by
    rw [hm.readBytes (by omega), imageBytes_eq]
    exact List.take_left
  rw [readImage_of_bodyForm (headerGood_iff.2 ⟨hmarker, hformat, by omega, by omega, by rw [hlength, hbefore, hcrc]⟩) hc
    (by rw [hlength, hbody]), hgeneration]

/-- The store's two writes leave its bytes, the marker the first four of them (R177). -/
theorem holds_stored {m : Memory} {bytes : List Byte} (hwf : m.wf = true) (hsize : bytes.length ≤ regionSize)
    (hmarker : bytes.take 4 = imageMarker) : Holds (writeBytes (writeBytes m 4 (bytes.drop 4)) 0 imageMarker) bytes := by
  intro k hk
  have hfour : 4 ≤ bytes.length := by
    have hlen := congrArg List.length hmarker
    rw [List.length_take] at hlen
    have hmarkerLength : imageMarker.length = 4 := rfl
    omega
  rw [readByte_writeBytes _ _ _ _ (writeBytes_wf _ _ _ hwf) (by decide), if_pos (Nat.zero_le k), Nat.sub_zero]
  by_cases hfirst : k < 4
  · have hsome : imageMarker[k]? = bytes[k]? := by rw [← hmarker, List.getElem?_take_of_lt hfirst]
    rw [hsome, List.getElem?_eq_getElem hk, Option.getD_some]
  · have hnone : imageMarker[k]? = none := List.getElem?_eq_none (Nat.not_lt.1 hfirst)
    rw [hnone, Option.getD_none, readByte_writeBytes _ _ _ _ hwf (by rw [List.length_drop]; omega),
      if_pos (Nat.not_lt.1 hfirst), List.getElem?_drop, Nat.add_sub_cancel' (Nat.not_lt.1 hfirst),
      List.getElem?_eq_getElem hk, Option.getD_some]

/-- Settles O53: the region holds the image (`holds_stored`), and an image loads (`readImage_of_holds`). -/
theorem storedImageLoads : Obligations.StoredImageLoads := by
  intro c g m hwf hc
  have hlong := (length_bodyForm (inRange_of_checked hc)).2
  refine readImage_of_holds hc (holds_stored hwf ?_ ?_)
  · rw [length_imageBytes, regionSize]
    omega
  · rw [imageBytes_eq]
    rfl

end Sys2Proof.Proofs.StoredImages

/-! PROOF. The state after reset: a power-on with a blank flash, and every invariant (R173, R176). -/
namespace Sys2Proof.Proofs.Reset
open Sys2Proof Sys2Proof.Machine Sys2Proof.Proofs.AlarmUnit Sys2Proof.Proofs.Units Sys2Proof.Proofs.ScanLists
open Sys2Proof.Proofs.Restarts Sys2Proof.Proofs.Images

/-! ### A blank flash (R176) -/

theorem readImage_blank : readImage [] = .check := by
  refine readImage_of_bad (Bool.eq_false_iff.2 fun hgood => ?_)
  exact absurd (headerGood_iff.1 hgood).1 (by decide)

/-- The empty configuration fits no line, so no group has a used one. -/
theorem takeUp_empty (g : GroupIx) (x : CaptureGroup) : takeUp emptyConfiguration g x = CaptureGroup.idle := by
  refine takeUp_of_nil x (scanListOf_of_unused (List.eq_nil_iff_forall_not_mem.2 fun slot hslot => ?_))
  obtain ⟨_, hfitted, _⟩ := mem_usedSlots.1 hslot
  rw [show emptyConfiguration.lines.get (lineOf g slot) = defaultLine from get_replicate _ _ _] at hfitted
  cases hfitted

/-- A power-on with a blank flash leaves the state after reset, up to the queue and the data out. -/
theorem imageLoadEvent_powerOnEvent {s : State} (hflash : s.flash = { ident := .part, region := [] })
    (hpins : s.pins = { resetLow := false, coreLow := false, holdSupply := true, noflash := false }) :
    imageLoadEvent (powerOnEvent s) = { State.reset with pending := s.pending, dataOut := s.dataOut } := by
  have hon := powerOnEvent_eq s
  rw [hpins, if_neg (by decide)] at hon
  have hstage : (powerOnEvent s).stage = .imageLoad := by rw [hon]
  have hstrap : (powerOnEvent s).strap = false := by
    rw [hon]
    rfl
  have hregion : (powerOnEvent s).flash = { ident := .part, region := [] } := by
    rw [hon]
    exact hflash
  have houtcome : loadOutcome (powerOnEvent s).strap (powerOnEvent s).flash = .check := by
    rw [loadOutcome_of_part hstrap (congrArg Flash.ident hregion), hregion, readImage_blank]
  have hidle : ∀ i, ((powerOnEvent s).alarms.get i).state = .idle := fun i => by
    rw [hon]
    exact congrArg AlarmRecord.state (get_replicate 640 _ i)
  have hgroups : (Vector.ofFn fun g => takeUp emptyConfiguration g ((powerOnEvent s).groups.get g)) =
      Vector.replicate 8 CaptureGroup.idle := table_ext _ _ fun g => by rw [get_ofFn, takeUp_empty, get_replicate]
  have hlines : (Vector.ofFn fun q => passAlarmed (powerOnEvent s).alarms q) = Vector.replicate 8 false :=
    table_ext _ _ fun q => by rw [get_ofFn, passAlarmed_of_idle hidle, get_replicate]
  rw [imageLoadEvent_eq (fault := some .loadCheck)
      (a := { config := emptyConfiguration, codes := checkCodes emptyConfiguration, generation := 0#16, source := .empty })
      hstage (by rw [houtcome]; rfl) (by rw [houtcome]; rfl), hgroups, hlines, Option.elim, handFault_faults, hon]
  simp only [clearForCold, clearAlarms, abandon, hflash]
  rfl

/-! ### The invariants after reset -/

/-- The state after reset is what its own cold start leaves. -/
theorem reset_eq_coldStart :
    State.reset = imageLoadEvent (powerOnEvent (abandon .powerOn State.reset)) := by
  rw [imageLoadEvent_powerOnEvent rfl rfl]
  rfl

theorem follow_reset : AlarmOutputsFollow State.reset := by
  rw [reset_eq_coldStart]
  exact follow_imageLoadEvent (follow_powerOnEvent _)

theorem unitsLegal_reset : UnitsLegal State.reset := by
  have hpasses : ∀ p, PassLegal (State.reset.passes.get p) := fun p => by
    rw [show State.reset.passes.get p = PassService.online from get_replicate _ _ p]
    exact passLegal_online
  rw [reset_eq_coldStart]
  exact unitsLegal_imageLoadEvent (unitsLegal_powerOnEvent (legal_abandon .powerOn hpasses))

/-- Settles O56: the state after reset is what a power-on and an image load leave, and these keep every invariant. -/
theorem invariantsAtReset : Obligations.InvariantsAtReset :=
  ⟨rfl, follow_reset, unitsLegal_reset, fun _ hflash hpins => ⟨_, _, rfl, rfl, imageLoadEvent_powerOnEvent hflash hpins⟩⟩

end Sys2Proof.Proofs.Reset
